-- ==== Sys2Proof/Word.lean ====
section
/-! DEFINITION. The word types of the block (00_scope.md rules R11 and R13): a byte, a 16-bit value
(CRC, frame identifier) and a 32-bit statistics counter. All values are unsigned (R11). -/

namespace Sys2Proof

/-- A byte: 8 bits, bit 7 the most significant (R11). -/
abbrev Byte := BitVec 8

/-- A 16-bit value: a CRC (R95), the frame identifier (R49, `FRAME_ID_WIDTH` = 16), a header field (R98). -/
abbrev Half := BitVec 16

/-- A statistics counter: `STAT_WIDTH` = 32 bits, wrapping (R8, R52). -/
abbrev Count := BitVec 32

end Sys2Proof
end

