-- ==== Sys2Proof/Syntax.lean ====
section
/-! DEFINITION. The operations of the block, one constructor of `Instr` for each row of
spec/opcode_table.json (30_encoding.md rule R110), the host commands (R102), and the moves by which
the three agents PRODUCER, CORE and HOST act on the block (00_scope.md rule R7). -/

namespace Sys2Proof

/-- The two protocol variants, "narrow/fast-oversampled" and "wide/slow-oversampled" (R10). -/
inductive Variant where
  | narrow
  | wide
deriving DecidableEq, Repr, Inhabited

/-- Which of the two cases of its letter a host command came in: bit 5 of the command byte, which
selects nothing (R103). It is kept so that no bit of an encoding is lost. -/
inductive LetterCase where
  | upper
  | lower
deriving DecidableEq, Repr, Inhabited

/-- What a host command byte selects (R102, R103). -/
inductive Command where
  /-- N/n -/
  | modeNarrow (k : LetterCase)
  /-- O/o -/
  | modeWide (k : LetterCase)
  /-- S/s -/
  | status (k : LetterCase)
  /-- R/r -/
  | clearStats (k : LetterCase)
  /-- B/b -/
  | fwUpdate (k : LetterCase)
  /-- every other byte (R104) -/
  | ignore (c : Byte)
deriving DecidableEq, Repr

/-- The operations of the block: one constructor for each row of spec/opcode_table.json, in the
table's order (R110). The operands are those the rule of the operation names; a value that the rule
reads from the block's own state is no operand. -/
inductive Instr where
  -- the host commands, selected by the command byte (R103)
  /-- R223 -/
  | modeNarrow (k : LetterCase)
  /-- R224 -/
  | modeWide (k : LetterCase)
  /-- R226 -/
  | status (k : LetterCase)
  /-- R228 -/
  | clearStats (k : LetterCase)
  /-- R229 -/
  | fwUpdate (k : LetterCase)
  /-- R230, with the ignored byte -/
  | ignore (c : Byte)
  -- the byte ring
  /-- R121, with the byte PRODUCER writes -/
  | produce (b : Byte)
  /-- R123 -/
  | consume
  -- the line parser; an operand is the byte CONSUME hands to PARSE
  /-- R142 -/
  | parseSfs (b : Byte)
  /-- R143 -/
  | parseRlAccumulate (b : Byte)
  /-- R144 (its byte is `line_buf[1]`) -/
  | parseRlRowInRange
  /-- R145 -/
  | parseRlRowLocked
  /-- R146 -/
  | parseRlRowFalseSync
  /-- R147 -/
  | parseRlRowFallback
  /-- R148 -/
  | parseRlComplete
  /-- R150 -/
  | parseRlCrcMismatch
  /-- R151 -/
  | parseRlCrcMatch
  /-- R152 -/
  | parseSgSync (b : Byte)
  /-- R153 -/
  | parseSgFill (b : Byte)
  /-- R154 -/
  | parseSgExhaust (b : Byte)
  -- the frame assembler; `row` is the decoded row address of the validated line
  /-- R171 -/
  | handleLine (row : Byte) (payload : List Byte)
  /-- R174 -/
  | boundaryDrop (row : Byte)
  /-- R175 -/
  | boundaryHandoff (row : Byte)
  /-- R178, R179 -/
  | place (row : Byte) (payload : List Byte)
  -- the frame sender; the operands are HOST's answers (R262)
  /-- R202 -/
  | pollIdle
  /-- R203: `ChanConnected()` answered false -/
  | pollDisconnect
  /-- R204: `ChanConnected()` answered true, `ChanRoom()` answered `room`, `ChanWrite` answers `accepted` -/
  | pollWrite (room accepted : Nat)
  /-- R205 -/
  | pollComplete
  -- the mode controller
  /-- R222 -/
  | cmd
  /-- R225 -/
  | modeSwitch (v : Variant)
deriving DecidableEq, Repr

/-- The row of the opcode table that a decoded command byte names (R222). -/
def Command.instr : Command → Instr
  | .modeNarrow k => .modeNarrow k
  | .modeWide k => .modeWide k
  | .status k => .status k
  | .clearStats k => .clearStats k
  | .fwUpdate k => .fwUpdate k
  | .ignore c => .ignore c

/-- HOST's answers to one POLL (R262, R273): is the peer connected, how much room does the channel
have, how many of the offered bytes does it accept. -/
structure ChannelAnswer where
  connected : Bool
  room : Nat
  accepted : Nat
deriving DecidableEq, Repr, Inhabited

/-- One atomic step of one agent (R6, R7): PRODUCER writes a byte (R121), CORE performs one of its
three operations (R221), or HOST appends a byte to the command queue (R55, R273). -/
inductive Move where
  | produce (b : Byte)
  | consume
  | poll (a : ChannelAnswer)
  | cmd
  | hostByte (c : Byte)
deriving DecidableEq, Repr, Inhabited

end Sys2Proof
end

