-- ==== Sys2Proof/Config.lean ====
section
/-! DEFINITION. The configuration of the block (00_scope.md rule R8): every parameter the source
leaves OPEN, held as plain data, so that a claim is made of every configuration. Below it the free
values: what the spec calls a draw and no rule fixes (93_implementation_defined.md U4, U5, U6, U7,
U9, U10), as constants without a body. -/

namespace Sys2Proof

/-- `ROWDEC_v`: how variant v turns a row byte into a row address (R93, parameter of R8). -/
inductive RowDecode where
  /-- the row byte itself -/
  | direct
  /-- the row byte with the parity bit masked off -/
  | mask (m : Byte)
deriving DecidableEq, Repr, Inhabited

/-- `CRC_FIELD_ORDER`: the order of the two CRC bytes of a line record (R94, parameter of R8). -/
inductive CrcOrder where
  | highFirst
  | lowFirst
deriving DecidableEq, Repr, Inhabited

/-- The protocol descriptor of one variant (R31): the source's fields and `ROWDEC_v`. The record
length `L_v` is no field: it is `W_v + 4` (WF5 of R9). -/
structure Descriptor where
  /-- `W_v`, pixel_width -/
  width : Nat
  /-- `H_v`, active_line_count -/
  height : Nat
  /-- `T_v`, total_line_count -/
  totalLines : Nat
  /-- `BITRATE_v`: read by no rule, passed to the capture layer (R265) -/
  bitRate : Nat
  /-- `ROWDEC_v` -/
  rowDecode : RowDecode
deriving DecidableEq, Repr, Inhabited

/-- `L_v = W_v + 4`: one sync byte, one row byte, `W_v` pixel bytes, two CRC bytes (R90, WF5). -/
def Descriptor.recordSize (d : Descriptor) : Nat := d.width + 4

/-- `W_v * H_v`: the bytes of one frame of the variant (R73). -/
def Descriptor.frameSize (d : Descriptor) : Nat := d.width * d.height

/-- The configuration of the block (R8). `RING_N` is given by its exponent, so that a capacity which
is no power of two (WF1) cannot be written down. -/
structure Config where
  /-- log2 of `RING_N` -/
  ringBits : Nat
  /-- `BATCH_MAX` -/
  batchMax : Nat
  /-- `MAX_GAP` -/
  maxGap : Nat
  /-- `SYNC` -/
  sync : Byte
  /-- `MAGIC_A` -/
  magicA : Byte
  /-- `MAGIC_B` -/
  magicB : Byte
  /-- `CRC_FIELD_ORDER` -/
  crcOrder : CrcOrder
  /-- `INITIAL_VARIANT` -/
  initialVariant : Variant
  narrow : Descriptor
  wide : Descriptor
deriving DecidableEq, Repr, Inhabited

/-- `RING_N`, the ring capacity in bytes (R8, WF1). -/
def Config.ringN (c : Config) : Nat := 2 ^ c.ringBits

/-- The descriptor of variant `v` (R31). -/
def Config.descriptor (c : Config) : Variant → Descriptor
  | .narrow => c.narrow
  | .wide => c.wide

/-- `W_MAX` (R8). -/
def Config.maxWidth (c : Config) : Nat := max c.narrow.width c.wide.width

/-- `H_MAX` (R8). -/
def Config.maxHeight (c : Config) : Nat := max c.narrow.height c.wide.height

/-- `L_MAX` (R8). -/
def Config.maxRecord (c : Config) : Nat := max c.narrow.recordSize c.wide.recordSize

/-- The size of one assembly buffer, `W_MAX * H_MAX` bytes (R43). -/
def Config.bufferSize (c : Config) : Nat := c.maxWidth * c.maxHeight

/-- TC, the one configuration the spec writes out in full (95_test_vectors.md section 0). It is a
test choice and no claim about the device. The spec gives TC no bit rates: they are 0 here, and no
rule reads them (DESIGN CHOICE, notes/assumptions/1.md, unsafe). -/
def Config.testConfiguration : Config where
  ringBits := 6
  batchMax := 16
  maxGap := 3
  sync := 0xA5
  magicA := 0xAB
  magicB := 0xCD
  crcOrder := .highFirst
  initialVariant := .narrow
  narrow := { width := 4, height := 3, totalLines := 5, bitRate := 0, rowDecode := .direct }
  wide := { width := 2, height := 2, totalLines := 2, bitRate := 0, rowDecode := .mask 0x7F }

/-- The record of the eight statistics counters, in the source's order (R52, R227). It is both the
block's counters and the snapshot STATUS reports. -/
structure Stats where
  /-- `st_bytes_forwarded` -/
  bytesForwarded : Count
  /-- `st_frames_sent` -/
  framesSent : Count
  /-- `st_frames_dropped` -/
  framesDropped : Count
  /-- `st_crc_ok` -/
  crcOk : Count
  /-- `st_crc_err` -/
  crcErr : Count
  /-- `st_gap_bytes` -/
  gapBytes : Count
  /-- `st_resync` -/
  resync : Count
  /-- `st_peak_occupancy` -/
  peakOccupancy : Count
deriving DecidableEq, Repr, Inhabited

/-- All eight counters 0: cold start (R60) and CLEAR_STATS (R228). -/
def Stats.zero : Stats where
  bytesForwarded := 0
  framesSent := 0
  framesDropped := 0
  crcOk := 0
  crcErr := 0
  gapBytes := 0
  resync := 0
  peakOccupancy := 0

/-- FREE VALUE `status_text` (R109, U6): the bytes of the status line, drawn anew at each STATUS. The
first argument is the number of the draw, the second the snapshot reported. Nothing constrains it
(DESIGN CHOICE, notes/assumptions/3.md, safe). -/
opaque Config.statusText : Nat → Stats → List Byte

/-- FREE VALUE `ack_text` (R109, U7): the bytes of the firmware-update acknowledgement, by the number
of the draw. Nothing constrains it (DESIGN CHOICE, notes/assumptions/3.md, safe). -/
opaque Config.ackText : Nat → List Byte

/-- FREE VALUE: which agent moves next, and with which byte or answers, where no move is at hand in
the state (R221, U4, U5, U9, U10), by the number of the draw. Nothing constrains it
(DESIGN CHOICE, notes/assumptions/2.md, safe). -/
opaque Config.freeMove : Nat → Move

end Sys2Proof
end

