-- ==== Sys2Proof/Machine/State.lean ====
section
/-! DEFINITION. The architectural state of the block as plain data (10_state.md), the reasons a step
can stop, and the state at cold start (10_state.md rule R60, 70_reset_and_hazards.md rule R280). -/

namespace Sys2Proof.Machine

/-- Bytes by address: one storage space of 20_memory.md rule R70, as (address, byte) pairs in the
canonical form that `Memory.wf` of Machine/Ops.lean states. -/
abbrev Memory := List Host.Cell

/-- What an address that is not listed reads as. For the two assembly buffers this is the reset value
the spec gives (R43). For the ring and the line buffer the spec gives none (R32, R39, D38):
DESIGN CHOICE, notes/assumptions/4.md, unsafe. -/
def Memory.unlisted : Byte := 0

/-- `pstate`, the state of the line parser (R37). -/
inductive ParserState where
  | scanningForSync
  | readingLine
  | scanningGap
deriving DecidableEq, Repr, Inhabited

/-- The two assembly buffers, "ping" and "pong": `buf[0]` and `buf[1]` (R43). -/
inductive BufferId where
  | ping
  | pong
deriving DecidableEq, Repr, Inhabited

/-- One record of the model-only event history (R56): the events of R250 that the block raises, the
operations on the output channel (R262) and the records of R225, R226, R229 and R205, in the order
they happen. E3 Overrun is no event of the block (R250). -/
inductive Event where
  /-- E1 (R251): row address, computed CRC, received CRC field -/
  | crcMismatch (row : Byte) (computed received : Half)
  /-- E2 (R252) -/
  | alignmentLost
  /-- E4 (R255): the identifier of the dropped frame -/
  | frameDropped (id : Half)
  /-- E5 (R256) -/
  | sendAbandoned
  /-- E6 (R257) -/
  | commandIgnored
  /-- E7 (R258): the decoded row address -/
  | rowRangeLocked (row : Byte)
  /-- E8 (R258): the row byte -/
  | falseSync (b : Byte)
  /-- R205: a packet has been accepted whole -/
  | frameSent
  /-- R225, R265: the variant and bit rate told to the capture layer -/
  | modeSwitched (v : Variant) (bitRate : Nat)
  /-- R226, R227: the snapshot of the counters -/
  | status (snapshot : Stats)
  /-- R229, R266: the firmware-update handoff -/
  | firmwareUpdate
  /-- R262: `ChanWrite(offered)` answered `accepted`; the host receives that many bytes of it -/
  | chanWrite (offered : List Byte) (accepted : Nat)
  /-- R262: `ChanFlush()` -/
  | chanFlush
  /-- R109: `ChanWriteOpaque(text)` -/
  | chanText (text : List Byte)
deriving DecidableEq, Repr

/-- Everything the spec gives the block (10_state.md), and, last, the model's own fields. -/
structure State where
  /-- The configuration (R8), an argument of the model; no step changes it. -/
  cfg : Config
  /-- `variant` (R30) -/
  variant : Variant
  /-- `ring` (R32) -/
  ring : Memory
  /-- `P`, the producer cursor (R33) -/
  prodCursor : Nat
  /-- `C`, the consumer cursor (R34) -/
  consCursor : Nat
  /-- `capture_enabled` (R35) -/
  captureEnabled : Bool
  /-- ghost `produced` (R36) -/
  produced : Nat
  /-- ghost `consumed` (R36) -/
  consumed : Nat
  /-- ghost `overrun` (R36) -/
  overrun : Bool
  /-- `pstate` (R37) -/
  pstate : ParserState
  /-- `frame_locked` (R38) -/
  frameLocked : Bool
  /-- `line_buf` (R39) -/
  lineBuf : Memory
  /-- `line_count` (R40) -/
  lineCount : Nat
  /-- `row_addr` (R41) -/
  rowAddr : Byte
  /-- `gap_remaining` (R42) -/
  gapRemaining : Nat
  /-- `buf[0]` (R43) -/
  bufPing : Memory
  /-- `buf[1]` (R43) -/
  bufPong : Memory
  /-- `active` (R44) -/
  active : BufferId
  /-- `pending` (R45) -/
  pending : Bool
  /-- `placed` (R46): bit r is `placed[r]`. `H_MAX` is at most 256 (WF4 of R9), so 256 bits hold it;
  the bits from `H_MAX` up stay 0 (I6 of R59). -/
  placed : BitVec 256
  /-- `placed_count` (R47) -/
  placedCount : Nat
  /-- `prev_row` (R48) -/
  prevRow : Byte
  /-- `frame_id` (R49) -/
  frameId : Half
  /-- `hdr` (R50) -/
  hdr : Vector Byte 8
  /-- `send_cursor` (R51) -/
  sendCursor : Nat
  /-- the statistics counters (R52) -/
  stats : Stats
  /-- `terminal` (R53) -/
  terminal : Bool
  /-- `cmd_queue`, oldest byte first (R55) -/
  cmdQueue : List Byte
  /-- `history`, oldest record first (R56) -/
  history : List Event
  /-- MODEL'S OWN: the MODE_SWITCH that ends a cold start is still to come, and is the first step
  (R280; notes/assumptions/5.md). -/
  booting : Bool
  /-- MODEL'S OWN: the agents' moves at hand, next one first (notes/assumptions/2.md). -/
  agenda : List Move
  /-- MODEL'S OWN: how many free values have been drawn (notes/assumptions/2.md, notes/assumptions/3.md). -/
  draws : Nat
deriving DecidableEq, Repr

/-- Why a step ends in a fault. No condition of the block is fatal (R14, R254): the one fault here
stands outside every run. -/
inductive Fault where
  /-- Raised by PARSE_RL_ACCUMULATE, and by CONSUME before its first PARSE, where `pstate` is
  ReadingLine and `line_count` is not in 1..L-1: the store of R143 would leave the record. No run
  reaches such a state (I4 of R59). Safe. -/
  | recordIndex
deriving DecidableEq, Repr

/-- Why a step is refused. `illFormedConfig` and `hostContract` are the refusal of R14, `handedOff`
and `notEnabled` its "no move", for which the three outcomes of the host's interface have no
constructor of their own (notes/assumptions/6.md). -/
inductive Refusal where
  /-- Raised by an arm of `exec` whose instruction has no meaning yet. Safe. -/
  | notModelled (mnemonic : String)
  /-- Raised by every operation under a configuration that R9 calls ill formed: it has no run. Safe. -/
  | illFormedConfig
  /-- Raised by every operation once `terminal` is set: no agent has a step (R294). Safe. -/
  | handedOff
  /-- Raised by an operation in a state in which the opcode table does not select it, or with an
  operand its rule does not admit: the agent waits (R14). Safe. -/
  | notEnabled
  /-- Raised by POLL_WRITE where HOST answers `ChanWrite` with more than it was offered, which HOST
  never does (R204, R273, D39). Safe as far as the spec's contract with HOST holds. -/
  | hostContract
deriving DecidableEq, Repr

/-- The "cold start" column of R60, for a configuration and a draw of what the spec leaves unspecified
there: the content of the ring and of the line buffer (R32, R39). The MODE_SWITCH of R280 is still
to come. -/
def State.coldStart (c : Config) (ring lineBuf : Memory) : State where
  cfg := c
  variant := c.initialVariant
  ring := ring
  prodCursor := 0
  consCursor := 0
  captureEnabled := true
  produced := 0
  consumed := 0
  overrun := false
  pstate := .scanningForSync
  frameLocked := false
  lineBuf := lineBuf
  lineCount := 0
  rowAddr := 0
  gapRemaining := 0
  bufPing := []
  bufPong := []
  active := .ping
  pending := false
  placed := 0
  placedCount := 0
  prevRow := 0
  frameId := 0
  hdr := Vector.replicate 8 0
  sendCursor := 0
  stats := Stats.zero
  terminal := false
  cmdQueue := []
  history := []
  booting := true
  agenda := []
  draws := 0

/-- The machine right after reset: the cold start of R60 under TC, the one configuration the spec
writes out (DESIGN CHOICE, notes/assumptions/1.md, unsafe), with the ring and the line buffer reading
0 (DESIGN CHOICE, notes/assumptions/4.md, unsafe). -/
def State.reset : State := State.coldStart Config.testConfiguration [] []

/-- The descriptor of the active variant (R30). -/
def State.desc (s : State) : Descriptor := s.cfg.descriptor s.variant

end Sys2Proof.Machine
end

