-- ==== Sys2Proof/Machine/Operands.lean ====
section
/-! DEFINITION. How the operations form their operands: the halves of a 16-bit value and its byte
orders (20_memory.md rule R75), the row decode (30_encoding.md rule R93), the CRC (R95-R97) and its
field (R94), the frame header (R99), the line record (R90, R108) and the case folding of a command
byte (R103). No operand depends on the state; what depends on it stands in Machine/Ops.lean. -/

namespace Sys2Proof

/-- Bits 7:0 of a 16-bit value (R11). -/
def lowByte (h : Half) : Byte := h.setWidth 8

/-- Bits 15:8 of a 16-bit value (R11). -/
def highByte (h : Half) : Byte := (h >>> 8).setWidth 8

/-- `{hi, lo}`: the 16-bit value of two bytes (R11). -/
def halfOf (hi lo : Byte) : Half := hi ++ lo

/-- `rowdec_v(b)`, the row decode (R93). The parity bit is masked off and never checked (R92). -/
def RowDecode.row (d : RowDecode) (b : Byte) : Byte :=
  match d with
  | .direct => b
  | .mask m => b &&& m

/-- `rowdec_v` of the descriptor of the variant (R93). -/
def Descriptor.row (d : Descriptor) (b : Byte) : Byte := d.rowDecode.row b

/-- The assembly of the CRC field from the record's last two bytes, in the order they came (R94). -/
def CrcOrder.field (o : CrcOrder) (x y : Byte) : Half :=
  match o with
  | .highFirst => halfOf x y
  | .lowFirst => halfOf y x

/-- The two bytes that a CRC has on the wire, in the order `CRC_FIELD_ORDER` sends them (R94, R108). -/
def CrcOrder.bytes (o : CrcOrder) (crc : Half) : List Byte :=
  match o with
  | .highFirst => [highByte crc, lowByte crc]
  | .lowFirst => [lowByte crc, highByte crc]

/-- One of the eight rounds of R96: shift left, and XOR the polynomial 0x1021 if bit 15 left. -/
def crcRound (c : Half) : Half :=
  if c.msb then (c <<< 1) ^^^ 0x1021 else c <<< 1

/-- `n` rounds of R96. -/
def crcRounds : Nat → Half → Half
  | 0, c => c
  | n + 1, c => crcRounds n (crcRound c)

/-- `crc_table[i]` (R54, R96): the bitwise remainder of `i << 8`. The table is a constant of the
block; its 256 entries as the spec prints them are checked in Tests/Slice0.lean. -/
def crcTable (i : Byte) : Half := crcRounds 8 (halfOf i 0)

/-- One byte of R95: the table-driven update. -/
def crcUpdate (crc : Half) (b : Byte) : Half :=
  (crc <<< 8) ^^^ crcTable (highByte crc ^^^ b)

/-- `CRC16(s)` (R95): CRC-16/CCITT-FALSE, first byte first, from 0xFFFF, no output XOR. -/
def crc16 (s : List Byte) : Half := s.foldl crcUpdate 0xFFFF

/-- The frame header of R99 for the frame identifier `f` and the geometry `d`: magic bytes, then
identifier, width and height, each low byte first. -/
def headerBytes (c : Config) (d : Descriptor) (f : Half) : Vector Byte 8 :=
  #v[c.magicA, c.magicB, lowByte f, highByte f,
     lowByte (BitVec.ofNat 16 d.width), highByte (BitVec.ofNat 16 d.width),
     lowByte (BitVec.ofNat 16 d.height), highByte (BitVec.ofNat 16 d.height)]

/-- The line record of R90 with this row byte, payload and CRC field value: sync, row byte, payload,
CRC field in the order of the configuration. -/
def lineRecord (c : Config) (rowByte : Byte) (payload : List Byte) (crc : Half) : List Byte :=
  c.sync :: rowByte :: (payload ++ c.crcOrder.bytes crc)

/-- `LINE(r, payload)` of R108: the line record with the correct CRC. -/
def goodRecord (c : Config) (rowByte : Byte) (payload : List Byte) : List Byte :=
  lineRecord c rowByte payload (crc16 payload)

/-- `c & 0xDF`: a command byte with the case bit cleared (R103). -/
def foldCase (c : Byte) : Byte := c &&& 0xDF

/-- Bit 5 of a command byte, the case of its letter (R103). -/
def letterCase (c : Byte) : LetterCase := if c.getLsbD 5 then .lower else .upper

/-- The command byte of a letter, given by its upper-case code, in the case `k` (R102, R103). -/
def letterByte (upper : Byte) (k : LetterCase) : Byte :=
  match k with
  | .upper => upper
  | .lower => upper ||| 0x20

end Sys2Proof
end

