-- ==== Sys2Proof/WellFormed.lean ====
section
/-! DEFINITION. Which configurations have a run (00_scope.md rule R9) and which operands an
operation admits (the "Operands" of its rule). -/

namespace Sys2Proof

/-- WF4 for one variant; WF5 holds by the definition of `Descriptor.recordSize`. -/
def Descriptor.wf (d : Descriptor) : Bool :=
  decide (1 ≤ d.width) && decide (1 ≤ d.height) && decide (d.height ≤ d.totalLines) &&
    decide (d.totalLines ≤ 256) && decide (d.width ≤ 65535) && decide (d.height ≤ 65535)

/-- A well-formed configuration (R9): WF1 to WF4 and WF6. -/
def Config.wf (c : Config) : Bool :=
  decide (1 ≤ c.ringBits) && decide (1 ≤ c.batchMax) && decide (1 ≤ c.maxGap) &&
    c.narrow.wf && c.wide.wf &&
    decide (c.narrow.totalLines ≤ (c.narrow.row c.sync).toNat)

/-- The bytes that select one of the five commands (R102); every other byte is IGNORE (R104). -/
def isCommandByte (c : Byte) : Bool :=
  foldCase c == 0x4E || foldCase c == 0x4F || foldCase c == 0x53 || foldCase c == 0x52 ||
    foldCase c == 0x42

/-- The operands an operation admits under a descriptor: IGNORE takes a byte that is no command
(R230); HANDLE_LINE takes a row below T and W payload bytes (R171); the boundary rows take the row
of a validated line (R172); PLACE takes a row below H and W payload bytes (R178). The other operands
are bytes and HOST's answers, of any value (R273, D42). -/
def Instr.wf (d : Descriptor) : Instr → Bool
  | .modeNarrow _ => true
  | .modeWide _ => true
  | .status _ => true
  | .clearStats _ => true
  | .fwUpdate _ => true
  | .ignore c => !isCommandByte c
  | .produce _ => true
  | .consume => true
  | .parseSfs _ => true
  | .parseRlAccumulate _ => true
  | .parseRlRowInRange => true
  | .parseRlRowLocked => true
  | .parseRlRowFalseSync => true
  | .parseRlRowFallback => true
  | .parseRlComplete => true
  | .parseRlCrcMismatch => true
  | .parseRlCrcMatch => true
  | .parseSgSync _ => true
  | .parseSgFill _ => true
  | .parseSgExhaust _ => true
  | .handleLine r p => decide (r.toNat < d.totalLines) && decide (p.length = d.width)
  | .boundaryDrop r => decide (r.toNat < d.totalLines)
  | .boundaryHandoff r => decide (r.toNat < d.totalLines)
  | .place r p => decide (r.toNat < d.height) && decide (p.length = d.width)
  | .pollIdle => true
  | .pollDisconnect => true
  | .pollWrite _ _ => true
  | .pollComplete => true
  | .cmd => true
  | .modeSwitch _ => true

end Sys2Proof
end

