-- ==== Sys2Proof/Machine/Ops.lean ====
section
/-! DEFINITION. The named operations over the storage spaces, the history and the output channel
(00_scope.md rule R12, 20_memory.md). The block has no traps (60_exceptions.md rule R254): where
another machine would take an exception, a rule of the block calls `emit` and goes on in line. -/

namespace Sys2Proof.Machine

/-- Every listed address is at least `lo`, the addresses rise strictly, and no listed byte is what an
unlisted address reads as. -/
def Memory.wfFrom : Nat → Memory → Bool
  | _, [] => true
  | lo, (a, v) :: rest => decide (lo ≤ a) && decide (v ≠ Memory.unlisted) && Memory.wfFrom (a + 1) rest

/-- The canonical form of a storage space: equal contents are equal data. -/
def Memory.wf (m : Memory) : Bool := Memory.wfFrom 0 m

/-- Every listed address is below `n`, the size of the storage space (R70). -/
def Memory.within (n : Nat) (m : Memory) : Bool := m.all (fun cell => decide (cell.1 < n))

/-- The byte at an address. It has no side effect (R78). -/
def Memory.read : Memory → Nat → Byte
  | [], _ => Memory.unlisted
  | (k, v) :: rest, a => if k = a then v else Memory.read rest a

/-- The space with byte `b` at address `a`, in canonical form. -/
def Memory.write : Memory → Nat → Byte → Memory
  | [], a, b => if b = Memory.unlisted then [] else [(a, b)]
  | (k, v) :: rest, a, b =>
    if a < k then (if b = Memory.unlisted then (k, v) :: rest else (a, b) :: (k, v) :: rest)
    else if a = k then (if b = Memory.unlisted then rest else (a, b) :: rest)
    else (k, v) :: Memory.write rest a b

/-- The bytes `bs` written at `a`, `a + 1`, … in that order. -/
def Memory.writeBytes : Memory → Nat → List Byte → Memory
  | m, _, [] => m
  | m, a, b :: bs => Memory.writeBytes (Memory.write m a b) (a + 1) bs

/-- The bytes at `a`, …, `a + n - 1`. -/
def Memory.readBytes (m : Memory) (a n : Nat) : List Byte :=
  (List.range n).map (fun i => Memory.read m (a + i))

/-- The space with 0 at every address below `n`: the clearing loops of R177 and R225, which write the
byte that unlisted addresses read as. -/
def Memory.clearBelow (n : Nat) (m : Memory) : Memory := m.filter (fun cell => decide (n ≤ cell.1))

/-- `emit` (R12): one more record in the event history, with no effect on the block (R56). -/
def emit (e : Event) (s : State) : State := { s with history := s.history ++ [e] }

/-- A ring index: `i & (RING_N - 1)` (R13, R71). -/
def ringIndex (s : State) (i : Nat) : Nat := i % s.cfg.ringN

/-- `RingRead(i)` (R71). -/
def ringRead (s : State) (i : Nat) : Byte := Memory.read s.ring (ringIndex s i)

/-- `RingWrite(i, b)` (R72). -/
def ringWrite (i : Nat) (b : Byte) (s : State) : State :=
  { s with ring := Memory.write s.ring (ringIndex s i) b }

/-- `available() = (P - C) & (RING_N - 1)` (R122), the subtraction taken modulo `RING_N`. -/
def available (s : State) : Nat :=
  ringIndex s (s.prodCursor + (s.cfg.ringN - ringIndex s s.consCursor))

/-- The `n` ring bytes from the consumer cursor on, oldest first (R71, R124). -/
def ringBytes (s : State) (n : Nat) : List Byte :=
  (List.range n).map (fun i => ringRead s (s.consCursor + i))

/-- Byte j of the current line record (R74). -/
def lineByte (s : State) (j : Nat) : Byte := Memory.read s.lineBuf j

/-- `line_buf[j] <- b` (R143). -/
def lineWrite (j : Nat) (b : Byte) (s : State) : State :=
  { s with lineBuf := Memory.write s.lineBuf j b }

/-- The payload of a whole record: `line_buf[2 .. L-2)`, W bytes (R97). -/
def payload (s : State) : List Byte := Memory.readBytes s.lineBuf 2 s.desc.width

/-- The row byte of the current record, `line_buf[1]` (R90, R144). -/
def rowByte (s : State) : Byte := lineByte s 1

/-- `crc_calc` of R148. -/
def crcCalc (s : State) : Half := crc16 (payload s)

/-- `crc_field` of R148: `line_buf[L-2]` and `line_buf[L-1]` in the configured order (R94). -/
def crcField (s : State) : Half :=
  s.cfg.crcOrder.field (lineByte s (s.desc.recordSize - 2)) (lineByte s (s.desc.recordSize - 1))

/-- The other of the two assembly buffers: `1 - k` (R45). -/
def BufferId.other : BufferId → BufferId
  | .ping => .pong
  | .pong => .ping

/-- `buf[k]` (R43). -/
def buffer (s : State) (k : BufferId) : Memory :=
  match k with
  | .ping => s.bufPing
  | .pong => s.bufPong

/-- `buf[k] <- m`: the one write of an assembly buffer. -/
def setBuffer (k : BufferId) (m : Memory) (s : State) : State :=
  match k with
  | .ping => { s with bufPing := m }
  | .pong => { s with bufPong := m }

/-- `BufRead(k, o)` (R73). -/
def bufRead (s : State) (k : BufferId) (o : Nat) : Byte := Memory.read (buffer s k) o

/-- `BufWrite(k, o, b)` for the bytes `bs` at `o`, `o + 1`, … (R73, R178). -/
def bufWriteBytes (k : BufferId) (o : Nat) (bs : List Byte) (s : State) : State :=
  setBuffer k (Memory.writeBytes (buffer s k) o bs) s

/-- `BufWrite(k, o, 0)` for every `o` below `n` (R177, R225). -/
def bufClear (k : BufferId) (n : Nat) (s : State) : State :=
  setBuffer k (Memory.clearBelow n (buffer s k)) s

/-- The length of the packet of the current variant, `total = 8 + W*H` (R101). -/
def packetSize (s : State) : Nat := 8 + s.desc.frameSize

/-- Byte k of the logical stream of the pending frame: the header, then the pending buffer
`buf[1 - active]` (R100, R201). -/
def streamByte (s : State) (k : Nat) : Byte :=
  if h : k < 8 then s.hdr[k] else bufRead s s.active.other (k - 8)

/-- `stream[from .. from + n)` (R204). -/
def streamBytes (s : State) (start n : Nat) : List Byte :=
  (List.range n).map (fun i => streamByte s (start + i))

/-- `ChanWrite(bytes)`, answered `accepted` by HOST (R262); recorded in the history (R56). -/
def chanWrite (bytes : List Byte) (accepted : Nat) (s : State) : State :=
  emit (.chanWrite bytes accepted) s

/-- `ChanFlush()` (R262). -/
def chanFlush (s : State) : State := emit .chanFlush s

/-- `ChanWriteOpaque(text)` (R12, R109): asks no room and moves no cursor. -/
def chanWriteOpaque (text : List Byte) (s : State) : State := emit (.chanText text) s

/-- What every operation asks first: a configuration that has a run (R9) and a block that has not been
handed off (R294). -/
def whenRunning (s : State) (o : Host.Outcome State Fault Refusal) : Host.Outcome State Fault Refusal :=
  if s.cfg.wf = false then .refused .illFormedConfig
  else if s.terminal = true then .refused .handedOff
  else o

/-- The outcome of an operation with one effect: the effect where the operation is selected, no move
where it is not (R14). -/
def attempt (s : State) (enabled : Bool) (s' : State) : Host.Outcome State Fault Refusal :=
  whenRunning s (if enabled then .next s' else .refused .notEnabled)

end Sys2Proof.Machine
end

