-- ==== Sys2Proof/Machine/Flags.lean ====
section
/-! DEFINITION. The flags of the block and the tests on them (10_state.md rule R58): the placed-row
bits (R46, R47), the roles of the two buffers (R45), and the boundary test (R172). There are no
condition codes. -/

namespace Sys2Proof.Machine

/-- The role of an assembly buffer (R45). -/
inductive Role where
  | active
  | pendingSend
  | idle
deriving DecidableEq, Repr

/-- `role(k)`, a function of `(active, pending)` (R45). -/
def role (s : State) (k : BufferId) : Role :=
  if k = s.active then .active else if s.pending then .pendingSend else .idle

/-- `placed[r]` (R46). -/
def isPlaced (s : State) (r : Nat) : Bool := s.placed.getLsbD r

/-- `placed[r] <- 1`, of the bitmap alone (R179). -/
def placedWith (placed : BitVec 256) (r : Nat) : BitVec 256 := placed ||| BitVec.twoPow 256 r

/-- The number of 1 bits of `placed[0..h-1]` (R47). -/
def placedBelow (placed : BitVec 256) : Nat → Nat
  | 0 => 0
  | h + 1 => placedBelow placed h + (if placed.getLsbD h then 1 else 0)

/-- The boundary test of R172: a line has been placed in the current frame, and the row is at most the
previous validated line's, unsigned. -/
def isBoundary (s : State) (row : Byte) : Bool := decide (0 < s.placedCount) && decide (row ≤ s.prevRow)

/-- The row check of R144: the decoded row byte is below `T`, blanking rows included. -/
def rowInRange (s : State) : Bool := decide ((s.desc.row (rowByte s)).toNat < s.desc.totalLines)

/-- Whether CONSUME may hand a byte to PARSE: in ReadingLine the record has room for it,
`1 ≤ line_count < L` (the operands of R143; I4 of R59). -/
def recordOpen (s : State) : Bool :=
  decide (s.pstate = .readingLine → 1 ≤ s.lineCount ∧ s.lineCount < s.desc.recordSize)

end Sys2Proof.Machine
end

