-- ==== Sys2Proof/Machine/FrameAssembler.lean ====
section
/-! DEFINITION. The frame assembler (42_frame_assembler.md): the boundary, the handoff and the drop,
the activation of a buffer, and the placement of a line. -/

namespace Sys2Proof.Machine

/-- ACTIVATE(k) (R177): the first `W*H` bytes of the buffer 0, no row placed. -/
def activate (k : BufferId) (s : State) : State :=
  let s := bufClear k s.desc.frameSize s
  { s with placed := 0, placedCount := 0 }

/-- STAMP_HEADER (R176) with the current `frame_id`. -/
def stampHeader (s : State) : State :=
  { s with hdr := headerBytes s.cfg s.desc s.frameId }

/-- `st_frames_dropped <- st_frames_dropped + 1` (R174). -/
def countDropped (s : State) : State :=
  { s with stats := { s.stats with framesDropped := s.stats.framesDropped + 1 } }

/-- `st_frames_sent <- st_frames_sent + 1` (R175): handoffs, not completed transmissions. -/
def countSent (s : State) : State :=
  { s with stats := { s.stats with framesSent := s.stats.framesSent + 1 } }

/-- `pending <- 1 ; send_cursor <- 0` (R175): the pending-send slot is taken. -/
def takeSlot (s : State) : State := { s with pending := true, sendCursor := 0 }

/-- `active <- 1 - active` (R175). -/
def swapActive (s : State) : State := { s with active := s.active.other }

/-- The drop path (R174): count and record the drop, and clear the active buffer for reuse (D15). The
pending frame is not touched. -/
def boundaryDrop (s : State) : State :=
  activate s.active (emit (.frameDropped s.frameId) (countDropped s))

/-- The handoff path (R175): the completed buffer takes the pending-send slot, by a change of role
alone, and the other buffer becomes active. -/
def boundaryHandoff (s : State) : State :=
  activate s.active.other (swapActive (countSent (stampHeader (takeSlot s))))

/-- `frame_id <- (frame_id + 1) mod 2^16` (R173). -/
def nextFrameId (s : State) : State := { s with frameId := s.frameId + 1 }

/-- BOUNDARY (R173-R175): the frame identifier goes up by one, modulo 2^16, before the frame is dropped
or handed off (R173, D14). -/
def boundary (s : State) : State :=
  if s.pending then boundaryDrop (nextFrameId s) else boundaryHandoff (nextFrameId s)

/-- `placed[r] <- 1 ; placed_count <- placed_count + 1` for a row that is new to the frame (R179). -/
def markPlaced (row : Byte) (s : State) : State :=
  if isPlaced s row.toNat then s
  else { s with placed := placedWith s.placed row.toNat, placedCount := s.placedCount + 1 }

/-- PLACE (R178, R179): the payload at byte offset `row * W` of the active buffer, and the row's bit and
the count if the row is new to the frame. -/
def placeLine (row : Byte) (bytes : List Byte) (s : State) : State :=
  markPlaced row (bufWriteBytes s.active (row.toNat * s.desc.width) bytes s)

/-- HANDLE_LINE after the boundary test (R171): a row below H is placed, a blanking row is not (R181). -/
def placeIfActive (row : Byte) (bytes : List Byte) (s : State) : State :=
  if row.toNat < s.desc.height then placeLine row bytes s else s

/-- `prev_row <- r` (R180). -/
def setPrevRow (row : Byte) (s : State) : State := { s with prevRow := row }

/-- HANDLE_LINE (R171): boundary first, then placement, then `prev_row`. -/
def handleLine (row : Byte) (bytes : List Byte) (s : State) : State :=
  setPrevRow row (placeIfActive row bytes (if isBoundary s row then boundary s else s))

/-- The meaning of HANDLE_LINE (R171), for the operands the rule admits. -/
def execHandleLine (row : Byte) (bytes : List Byte) (s : State) : Host.Outcome State Fault Refusal :=
  attempt s (Instr.wf s.desc (.handleLine row bytes)) (handleLine row bytes s)

/-- The meaning of BOUNDARY_DROP (R174), selected at a boundary (R172) while the slot is occupied. -/
def execBoundaryDrop (row : Byte) (s : State) : Host.Outcome State Fault Refusal :=
  attempt s (Instr.wf s.desc (.boundaryDrop row) && isBoundary s row && s.pending) (boundaryDrop s)

/-- The meaning of BOUNDARY_HANDOFF (R175), selected at a boundary (R172) while the slot is free. -/
def execBoundaryHandoff (row : Byte) (s : State) : Host.Outcome State Fault Refusal :=
  attempt s (Instr.wf s.desc (.boundaryHandoff row) && isBoundary s row && !s.pending)
    (boundaryHandoff s)

/-- The meaning of PLACE (R178, R179), selected for a row below H. -/
def execPlace (row : Byte) (bytes : List Byte) (s : State) : Host.Outcome State Fault Refusal :=
  attempt s (Instr.wf s.desc (.place row bytes)) (placeLine row bytes s)

end Sys2Proof.Machine
end

