-- ==== Sys2Proof/Machine/LineParser.lean ====
section
/-! DEFINITION. The line parser (41_line_parser.md): one definition for each rule R142 to R154, PARSE
(R141) over them, and the meanings of the parser's rows. -/

namespace Sys2Proof.Machine

/-- A sync byte starts a record: `line_buf[0] <- b ; line_count <- 1 ; goto ReadingLine`
(R142, R146, R152). -/
def openRecord (b : Byte) (s : State) : State :=
  { lineWrite 0 b s with lineCount := 1, pstate := .readingLine }

/-- `gap_remaining <- budget ; goto ScanningGap` (R145, R150, R151). -/
def enterGap (budget : Nat) (s : State) : State :=
  { s with gapRemaining := budget, pstate := .scanningGap }

/-- `line_count <- 0`: the record is closed (R145, R147, R148). -/
def closeRecord (s : State) : State := { s with lineCount := 0 }

/-- The extended gap budget `MAX_GAP + L` (R155). -/
def extendedBudget (s : State) : Nat := s.cfg.maxGap + s.desc.recordSize

/-- R142: a sync byte starts a record, any other byte is discarded. -/
def parseSfs (b : Byte) (s : State) : State :=
  if b = s.cfg.sync then openRecord b s else s

/-- The store of R143. -/
def accumulate (b : Byte) (s : State) : State :=
  { lineWrite s.lineCount b s with lineCount := s.lineCount + 1 }

/-- R144: the row byte decodes below T. -/
def rowAccepted (s : State) : State := { s with rowAddr := s.desc.row (rowByte s) }

/-- R145: out of range while locked. The row byte is not looked at again. -/
def rowLocked (s : State) : State :=
  enterGap (extendedBudget s) (emit (.rowRangeLocked (s.desc.row (rowByte s))) (closeRecord s))

/-- R146: out of range while unlocked, and the row byte is itself SYNC. -/
def rowFalseSync (s : State) : State :=
  emit (.falseSync (rowByte s)) { lineWrite 0 (rowByte s) s with lineCount := 1 }

/-- R147: out of range while unlocked, and the row byte is not SYNC. -/
def rowFallback (s : State) : State :=
  { emit (.falseSync (rowByte s)) (closeRecord s) with pstate := .scanningForSync }

/-- The row check (R144-R147). -/
def rowCheck (s : State) : State :=
  if rowInRange s then rowAccepted s
  else if s.frameLocked then rowLocked s
  else if rowByte s = s.cfg.sync then rowFalseSync s
  else rowFallback s

/-- `st_crc_err <- st_crc_err + 1` (R150). -/
def countCrcErr (s : State) : State := { s with stats := { s.stats with crcErr := s.stats.crcErr + 1 } }

/-- `st_crc_ok <- st_crc_ok + 1` (R151). -/
def countCrcOk (s : State) : State := { s with stats := { s.stats with crcOk := s.stats.crcOk + 1 } }

/-- `frame_locked <- 1` (R151). -/
def lockFrame (s : State) : State := { s with frameLocked := true }

/-- R150: the CRC does not match. `frame_locked` is not written (D9). -/
def crcMismatch (s : State) : State :=
  enterGap (extendedBudget s)
    (emit (.crcMismatch s.rowAddr (crcCalc s) (crcField s)) (countCrcErr s))

/-- R151: the CRC matches, a validated line. -/
def crcMatch (s : State) : State :=
  enterGap s.cfg.maxGap (lockFrame (handleLine s.rowAddr (payload s) (countCrcOk s)))

/-- R148: completion of a record, by exact equality of the two CRC values (R149). -/
def complete (s : State) : State :=
  if crcCalc s = crcField s then crcMatch (closeRecord s) else crcMismatch (closeRecord s)

/-- R143: PARSE in ReadingLine, whatever the value of the byte (R158). -/
def parseRl (b : Byte) (s : State) : State :=
  let s := accumulate b s
  if s.lineCount = 2 then rowCheck s
  else if s.lineCount = s.desc.recordSize then complete s
  else s

/-- R153: a filler byte within the budget. -/
def gapFill (s : State) : State :=
  { s with
    stats := { s.stats with gapBytes := s.stats.gapBytes + 1 }
    gapRemaining := s.gapRemaining - 1 }

/-- R154: the filler byte that exhausts the budget. -/
def gapExhaust (s : State) : State :=
  { emit .alignmentLost s with
    stats := { s.stats with gapBytes := s.stats.gapBytes + 1, resync := s.stats.resync + 1 }
    gapRemaining := 0
    frameLocked := false
    pstate := .scanningForSync }

/-- PARSE in ScanningGap (R152, R153, R154). -/
def parseSg (b : Byte) (s : State) : State :=
  if b = s.cfg.sync then openRecord b s
  else if 2 ≤ s.gapRemaining then gapFill s
  else gapExhaust s

/-- PARSE(b) (R141). -/
def parse (b : Byte) (s : State) : State :=
  match s.pstate with
  | .scanningForSync => parseSfs b s
  | .readingLine => parseRl b s
  | .scanningGap => parseSg b s

/-- One PARSE for each byte, in order, each seeing the state the one before it left (R124). -/
def parseBytes (bs : List Byte) (s : State) : State := bs.foldl (fun s b => parse b s) s

/-- The meaning of PARSE_SFS (R142). -/
def execParseSfs (b : Byte) (s : State) : Host.Outcome State Fault Refusal :=
  attempt s (s.pstate = .scanningForSync) (parseSfs b s)

/-- The meaning of PARSE_RL_ACCUMULATE (R143): the store, then the row check or the completion where it
is due. The fault stands outside every run: see `Fault.recordIndex`. -/
def execParseRlAccumulate (b : Byte) (s : State) : Host.Outcome State Fault Refusal :=
  whenRunning s
    (if s.pstate = .readingLine then
      (if recordOpen s then .next (parseRl b s) else .fault .recordIndex)
    else .refused .notEnabled)

/-- The state in which the row check is due: the row byte has just been stored (R143). -/
def rowDue (s : State) : Bool := s.pstate = .readingLine ∧ s.lineCount = 2

/-- The meaning of PARSE_RL_ROW_IN_RANGE (R144). -/
def execParseRlRowInRange (s : State) : Host.Outcome State Fault Refusal :=
  attempt s (rowDue s && rowInRange s) (rowAccepted s)

/-- The meaning of PARSE_RL_ROW_LOCKED (R145). -/
def execParseRlRowLocked (s : State) : Host.Outcome State Fault Refusal :=
  attempt s (rowDue s && !rowInRange s && s.frameLocked) (rowLocked s)

/-- The meaning of PARSE_RL_ROW_FALSE_SYNC (R146). -/
def execParseRlRowFalseSync (s : State) : Host.Outcome State Fault Refusal :=
  attempt s (rowDue s && !rowInRange s && !s.frameLocked && decide (rowByte s = s.cfg.sync))
    (rowFalseSync s)

/-- The meaning of PARSE_RL_ROW_FALLBACK (R147). -/
def execParseRlRowFallback (s : State) : Host.Outcome State Fault Refusal :=
  attempt s (rowDue s && !rowInRange s && !s.frameLocked && decide (rowByte s ≠ s.cfg.sync))
    (rowFallback s)

/-- The meaning of PARSE_RL_COMPLETE (R148): the record is whole. -/
def execParseRlComplete (s : State) : Host.Outcome State Fault Refusal :=
  attempt s (decide (s.pstate = .readingLine) && decide (s.lineCount = s.desc.recordSize)) (complete s)

/-- The state in which R150 or R151 is due: R148 has just set `line_count` to 0. -/
def crcDue (s : State) : Bool := s.pstate = .readingLine ∧ s.lineCount = 0

/-- The meaning of PARSE_RL_CRC_MISMATCH (R150). -/
def execParseRlCrcMismatch (s : State) : Host.Outcome State Fault Refusal :=
  attempt s (crcDue s && decide (crcCalc s ≠ crcField s)) (crcMismatch s)

/-- The meaning of PARSE_RL_CRC_MATCH (R151). -/
def execParseRlCrcMatch (s : State) : Host.Outcome State Fault Refusal :=
  attempt s (crcDue s && decide (crcCalc s = crcField s)) (crcMatch s)

/-- The meaning of PARSE_SG_SYNC (R152). -/
def execParseSgSync (b : Byte) (s : State) : Host.Outcome State Fault Refusal :=
  attempt s (decide (s.pstate = .scanningGap) && decide (b = s.cfg.sync)) (openRecord b s)

/-- The meaning of PARSE_SG_FILL (R153). -/
def execParseSgFill (b : Byte) (s : State) : Host.Outcome State Fault Refusal :=
  attempt s (decide (s.pstate = .scanningGap) && decide (b ≠ s.cfg.sync) && decide (2 ≤ s.gapRemaining))
    (gapFill s)

/-- The meaning of PARSE_SG_EXHAUST (R154). -/
def execParseSgExhaust (b : Byte) (s : State) : Host.Outcome State Fault Refusal :=
  attempt s (decide (s.pstate = .scanningGap) && decide (b ≠ s.cfg.sync) && decide (s.gapRemaining ≤ 1))
    (gapExhaust s)

end Sys2Proof.Machine
end

