-- ==== Sys2Proof/Machine/ByteRing.lean ====
section
/-! DEFINITION. The byte ring (40_byte_ring.md): PRODUCE and CONSUME. -/

namespace Sys2Proof.Machine

/-- PRODUCE (R121): the byte, the cursor, and the ghosts `produced` and `overrun` (R127). The write
happens whether or not the byte at P has been consumed (R72). -/
def producer (b : Byte) (s : State) : State :=
  let s := ringWrite s.prodCursor b s
  { s with
    prodCursor := ringIndex s (s.prodCursor + 1)
    produced := s.produced + 1
    overrun := s.overrun || decide (s.cfg.ringN ≤ s.produced + 1 - s.consumed) }

/-- The meaning of PRODUCE (R121), enabled while `capture_enabled = 1`. -/
def execProduce (b : Byte) (s : State) : Host.Outcome State Fault Refusal :=
  attempt s s.captureEnabled (producer b s)

/-- How many bytes a CONSUME parses: `min(available(), BATCH_MAX)`, sampled once (R123). -/
def batchSize (s : State) : Nat := min (available s) s.cfg.batchMax

/-- The peak sample of R126: the larger of the old value and `available()`. -/
def samplePeak (s : State) : State :=
  { s with stats := { s.stats with
      peakOccupancy := BitVec.ofNat 32 (max s.stats.peakOccupancy.toNat (available s)) } }

/-- CONSUME (R123): sample the occupancy, parse the batch in arrival order, move the cursor. -/
def consumer (s : State) : State :=
  let n := batchSize s
  let t := parseBytes (ringBytes s n) (samplePeak s)
  { t with
    consCursor := ringIndex s (s.consCursor + n)
    consumed := s.consumed + n }

/-- The meaning of CONSUME (R123). The fault stands outside every run: see `Fault.recordIndex`. -/
def execConsume (s : State) : Host.Outcome State Fault Refusal :=
  whenRunning s
    (if batchSize s = 0 ∨ recordOpen s then .next (consumer s) else .fault .recordIndex)

end Sys2Proof.Machine
end

