-- ==== Sys2Proof/Decode.lean ====
section
/-! DEFINITION. The decode of a host command byte (30_encoding.md rules R102-R104) and, after it, the
encoder. The host commands are the only operations of the block that have an encoding (R110). The
line record, which the block reads byte by byte as it comes, has its encoder in Machine/Operands.lean
(`lineRecord`) and its reader in Machine/LineParser.lean. -/

namespace Sys2Proof

/-- Why no command is read. No byte is illegal (R104). -/
inductive DecodeError where
  /-- there is no byte to read -/
  | noCommandByte
deriving DecidableEq, Repr

/-- The decode of R103: by `c & 0xDF`. Every byte selects a command (R104). -/
def decodeCommand (c : Byte) : Command :=
  if foldCase c = 0x4E then .modeNarrow (letterCase c)
  else if foldCase c = 0x4F then .modeWide (letterCase c)
  else if foldCase c = 0x53 then .status (letterCase c)
  else if foldCase c = 0x52 then .clearStats (letterCase c)
  else if foldCase c = 0x42 then .fwUpdate (letterCase c)
  else .ignore c

/-- Reads one command off the front of the bytes that have arrived (R222). -/
def decode : List Byte → Except DecodeError (Instr × List Byte)
  | [] => .error .noCommandByte
  | c :: rest => .ok ((decodeCommand c).instr, rest)

/-- The command byte of a command (R102). -/
def Command.byte : Command → Byte
  | .modeNarrow k => letterByte 0x4E k
  | .modeWide k => letterByte 0x4F k
  | .status k => letterByte 0x53 k
  | .clearStats k => letterByte 0x52 k
  | .fwUpdate k => letterByte 0x42 k
  | .ignore c => c

/-- The bytes of an operation: one byte for a host command; no other operation is encoded (R110). -/
def encode : Instr → Option (List Byte)
  | .modeNarrow k => some [Command.byte (.modeNarrow k)]
  | .modeWide k => some [Command.byte (.modeWide k)]
  | .status k => some [Command.byte (.status k)]
  | .clearStats k => some [Command.byte (.clearStats k)]
  | .fwUpdate k => some [Command.byte (.fwUpdate k)]
  | .ignore c => some [Command.byte (.ignore c)]
  | .produce _ => none
  | .consume => none
  | .parseSfs _ => none
  | .parseRlAccumulate _ => none
  | .parseRlRowInRange => none
  | .parseRlRowLocked => none
  | .parseRlRowFalseSync => none
  | .parseRlRowFallback => none
  | .parseRlComplete => none
  | .parseRlCrcMismatch => none
  | .parseRlCrcMatch => none
  | .parseSgSync _ => none
  | .parseSgFill _ => none
  | .parseSgExhaust _ => none
  | .handleLine _ _ => none
  | .boundaryDrop _ => none
  | .boundaryHandoff _ => none
  | .place _ _ => none
  | .pollIdle => none
  | .pollDisconnect => none
  | .pollWrite _ _ => none
  | .pollComplete => none
  | .cmd => none
  | .modeSwitch _ => none

/-- The first `n` bytes of an instruction whose bits are `w`, bit 0 the least significant bit of the
first byte. -/
def wordBytes : Nat → Nat → List Byte
  | 0, _ => []
  | n + 1, w => BitVec.ofNat 8 w :: wordBytes n (w / 256)

/-- The instruction that `decode` reads from an instruction whose `nbits` bits are `w`. A row of the
opcode table without an encoding has no bits, and nothing is read. -/
def decodeTableWord (nbits w : Nat) : Option Instr :=
  match decode (wordBytes (nbits / 8) w) with
  | .ok (i, _) => some i
  | .error _ => none

end Sys2Proof
end

