-- ==== Sys2Proof/Machine/FrameSender.lean ====
section
/-! DEFINITION. The frame sender (43_frame_sender.md): the four cases of POLL, in the order pending
test, disconnect test, write, completion (60_exceptions.md rule R260). -/

namespace Sys2Proof.Machine

/-- `pending <- 0 ; send_cursor <- 0`: the pending-send slot is released (R203, R205, R225). -/
def releaseSlot (s : State) : State := { s with pending := false, sendCursor := 0 }

/-- R203: the peer is gone. No write and no flush (D21). -/
def sendAbandon (s : State) : State := emit .sendAbandoned (releaseSlot s)

/-- R205: the packet has been accepted whole. -/
def sendComplete (s : State) : State := emit .frameSent (chanFlush (releaseSlot s))

/-- What a POLL offers the channel: `min(ChanRoom(), total - send_cursor)` (R204). -/
def offerSize (room : Nat) (s : State) : Nat := min room (packetSize s - s.sendCursor)

/-- The write of R204: the next `offer` bytes of the stream, of which the channel accepts `accepted`. -/
def sendWrite (room accepted : Nat) (s : State) : State :=
  let s := chanWrite (streamBytes s s.sendCursor (offerSize room s)) accepted s
  { s with
    sendCursor := s.sendCursor + accepted
    stats := { s.stats with bytesForwarded := s.stats.bytesForwarded + BitVec.ofNat 32 accepted } }

/-- R204, then R205 where the cursor has reached the total. An offer of 0 makes no write (D20). -/
def sendPoll (room accepted : Nat) (s : State) : State :=
  let s := if 0 < offerSize room s then sendWrite room accepted s else s
  if s.sendCursor = packetSize s then sendComplete s else s

/-- The meaning of POLL_IDLE (R202): no frame is pending, nothing is done and no channel operation made. -/
def execPollIdle (s : State) : Host.Outcome State Fault Refusal :=
  attempt s (!s.pending) s

/-- The meaning of POLL_DISCONNECT (R203). -/
def execPollDisconnect (s : State) : Host.Outcome State Fault Refusal :=
  attempt s s.pending (sendAbandon s)

/-- The meaning of POLL_WRITE (R204): HOST may accept any part of the offer, and no more (D39). Where
nothing is offered, `ChanWrite` is not called and its answer does not exist. -/
def execPollWrite (room accepted : Nat) (s : State) : Host.Outcome State Fault Refusal :=
  whenRunning s
    (if s.pending then
      (if 0 < offerSize room s ∧ offerSize room s < accepted then .refused .hostContract
       else .next (sendPoll room accepted s))
    else .refused .notEnabled)

/-- The meaning of POLL_COMPLETE (R205), selected where the cursor has reached the total. -/
def execPollComplete (s : State) : Host.Outcome State Fault Refusal :=
  attempt s (s.pending && decide (s.sendCursor = packetSize s)) (sendComplete s)

/-- Which of the rows a POLL is: no frame pending (R202), peer gone (R203), or write (R204). -/
def pollInstr (a : ChannelAnswer) (s : State) : Instr :=
  if s.pending then (if a.connected then .pollWrite a.room a.accepted else .pollDisconnect)
  else .pollIdle

end Sys2Proof.Machine
end

