-- ==== Sys2Proof/Machine/ModeController.lean ====
section
/-! DEFINITION. The mode controller (44_mode_controller.md): the mode switch, the host commands, and
HOST's append to the command queue (10_state.md rule R55). -/

namespace Sys2Proof.Machine

/-- "halt byte capture" (R225). -/
def haltCapture (s : State) : State := { s with captureEnabled := false }

/-- "reset parser state to ScanningForSync with frame_locked=false"; the partial line goes (R225). -/
def resetParser (s : State) : State :=
  { s with pstate := .scanningForSync, frameLocked := false, lineCount := 0 }

/-- "clear both assembly buffers and placed-row bookkeeping" (R225): all `W_MAX*H_MAX` bytes of each.
The active buffer becomes buffer 0 (D26). -/
def clearAssembler (s : State) : State :=
  let s := bufClear .pong s.cfg.bufferSize (bufClear .ping s.cfg.bufferSize s)
  { s with placed := 0, placedCount := 0, active := .ping }

/-- "reset ring-buffer cursors" (R225), and the ghosts with them (R36). -/
def resetCursors (s : State) : State :=
  { s with prodCursor := 0, consCursor := 0, produced := 0, consumed := 0, overrun := false }

/-- "select the new descriptor" (R225), told to the capture layer (R265). -/
def selectVariant (v : Variant) (s : State) : State :=
  emit (.modeSwitched v (s.cfg.descriptor v).bitRate) { s with variant := v }

/-- "restart byte capture" (R225). -/
def restartCapture (s : State) : State := { s with captureEnabled := true }

/-- MODE_SWITCH(v), the full reset, in the order of R225. -/
def modeSwitch (v : Variant) (s : State) : State :=
  restartCapture (selectVariant v (resetCursors (releaseSlot (clearAssembler (resetParser
    (haltCapture s))))))

/-- STATUS (R226): the snapshot record and the status text. No block state changes; the draw is counted. -/
def statusReport (s : State) : State :=
  let text := Config.statusText s.draws s.stats
  { chanWriteOpaque text (emit (.status s.stats) s) with draws := s.draws + 1 }

/-- CLEAR_STATS (R228): the eight counters, and nothing else. -/
def clearStats (s : State) : State := { s with stats := Stats.zero }

/-- FW_UPDATE (R229): acknowledgement, flush, handoff record, terminal. -/
def firmwareUpdate (s : State) : State :=
  let s := { chanWriteOpaque (Config.ackText s.draws) s with draws := s.draws + 1 }
  { emit .firmwareUpdate (chanFlush s) with terminal := true }

/-- The meaning of MODE_SWITCH (R225). -/
def execModeSwitch (v : Variant) (s : State) : Host.Outcome State Fault Refusal :=
  attempt s true (modeSwitch v s)

/-- The meaning of MODE_NARROW (R223): the full reset, also where the variant is NARROW already (D25). -/
def execModeNarrow (_k : LetterCase) (s : State) : Host.Outcome State Fault Refusal :=
  attempt s true (modeSwitch .narrow s)

/-- The meaning of MODE_WIDE (R224). -/
def execModeWide (_k : LetterCase) (s : State) : Host.Outcome State Fault Refusal :=
  attempt s true (modeSwitch .wide s)

/-- The meaning of STATUS (R226). -/
def execStatus (_k : LetterCase) (s : State) : Host.Outcome State Fault Refusal :=
  attempt s true (statusReport s)

/-- The meaning of CLEAR_STATS (R228). -/
def execClearStats (_k : LetterCase) (s : State) : Host.Outcome State Fault Refusal :=
  attempt s true (clearStats s)

/-- The meaning of FW_UPDATE (R229). -/
def execFwUpdate (_k : LetterCase) (s : State) : Host.Outcome State Fault Refusal :=
  attempt s true (firmwareUpdate s)

/-- The meaning of IGNORE (R230): no effect on the block and no counter; the event E6 in the model's
history (R250, R257). -/
def execIgnore (c : Byte) (s : State) : Host.Outcome State Fault Refusal :=
  attempt s (Instr.wf s.desc (.ignore c)) (emit .commandIgnored s)

/-- The meaning of a decoded command (R222). -/
def execCommand (c : Command) (s : State) : Host.Outcome State Fault Refusal :=
  match c with
  | .modeNarrow k => execModeNarrow k s
  | .modeWide k => execModeWide k s
  | .status k => execStatus k s
  | .clearStats k => execClearStats k s
  | .fwUpdate k => execFwUpdate k s
  | .ignore b => execIgnore b s

/-- `cmd_queue <- q` (R55, R222). -/
def setQueue (q : List Byte) (s : State) : State := { s with cmdQueue := q }

/-- The meaning of CMD (R222), enabled while `cmd_queue` is not empty (R221): the oldest byte is taken,
decoded and acted on. -/
def execCmd (s : State) : Host.Outcome State Fault Refusal :=
  whenRunning s
    (match s.cmdQueue with
     | [] => .refused .notEnabled
     | c :: rest => execCommand (decodeCommand c) (setQueue rest s))

/-- HOST appends a byte to the command queue (R55, R273). It is a step of HOST and no row of the opcode
table. -/
def hostByte (c : Byte) (s : State) : Host.Outcome State Fault Refusal :=
  attempt s true (setQueue (s.cmdQueue ++ [c]) s)

end Sys2Proof.Machine
end

