-- ==== Sys2Proof/Machine/Dispatch.lean ====
section
/-! DEFINITION. One arm for each operation of the block, each one call of its meaning. -/

namespace Sys2Proof.Machine

def exec (i : Instr) (s : State) : Host.Outcome State Fault Refusal :=
  match i with
  | .modeNarrow k => Sys2Proof.Machine.execModeNarrow k s
  | .modeWide k => Sys2Proof.Machine.execModeWide k s
  | .status k => Sys2Proof.Machine.execStatus k s
  | .clearStats k => Sys2Proof.Machine.execClearStats k s
  | .fwUpdate k => Sys2Proof.Machine.execFwUpdate k s
  | .ignore c => Sys2Proof.Machine.execIgnore c s
  | .produce b => Sys2Proof.Machine.execProduce b s
  | .consume => Sys2Proof.Machine.execConsume s
  | .parseSfs b => Sys2Proof.Machine.execParseSfs b s
  | .parseRlAccumulate b => Sys2Proof.Machine.execParseRlAccumulate b s
  | .parseRlRowInRange => Sys2Proof.Machine.execParseRlRowInRange s
  | .parseRlRowLocked => Sys2Proof.Machine.execParseRlRowLocked s
  | .parseRlRowFalseSync => Sys2Proof.Machine.execParseRlRowFalseSync s
  | .parseRlRowFallback => Sys2Proof.Machine.execParseRlRowFallback s
  | .parseRlComplete => Sys2Proof.Machine.execParseRlComplete s
  | .parseRlCrcMismatch => Sys2Proof.Machine.execParseRlCrcMismatch s
  | .parseRlCrcMatch => Sys2Proof.Machine.execParseRlCrcMatch s
  | .parseSgSync b => Sys2Proof.Machine.execParseSgSync b s
  | .parseSgFill b => Sys2Proof.Machine.execParseSgFill b s
  | .parseSgExhaust b => Sys2Proof.Machine.execParseSgExhaust b s
  | .handleLine row bytes => Sys2Proof.Machine.execHandleLine row bytes s
  | .boundaryDrop row => Sys2Proof.Machine.execBoundaryDrop row s
  | .boundaryHandoff row => Sys2Proof.Machine.execBoundaryHandoff row s
  | .place row bytes => Sys2Proof.Machine.execPlace row bytes s
  | .pollIdle => Sys2Proof.Machine.execPollIdle s
  | .pollDisconnect => Sys2Proof.Machine.execPollDisconnect s
  | .pollWrite room accepted => Sys2Proof.Machine.execPollWrite room accepted s
  | .pollComplete => Sys2Proof.Machine.execPollComplete s
  | .cmd => Sys2Proof.Machine.execCmd s
  | .modeSwitch v => Sys2Proof.Machine.execModeSwitch v s

end Sys2Proof.Machine
end

