-- ==== Sys2Proof/Machine/Step.lean ====
section
/-! DEFINITION. One step of the block: one atomic transaction of one agent (00_scope.md rules R6, R7,
44_mode_controller.md rule R221). The first step after a cold start is MODE_SWITCH(INITIAL_VARIANT)
(70_reset_and_hazards.md rule R280). -/

namespace Sys2Proof.Machine

/-- The next agent's move: the first one at hand in the state, or else a free value (R221, U9;
notes/assumptions/2.md). -/
def nextMove (s : State) : Move :=
  match s.agenda with
  | m :: _ => m
  | [] => Config.freeMove s.draws

/-- The state with that move taken. -/
def takeMove (s : State) : State :=
  match s.agenda with
  | _ :: ms => { s with agenda := ms }
  | [] => { s with draws := s.draws + 1 }

/-- The step of one agent: HOST's append (R55), or the operation that the move selects (R110). -/
def runMove (m : Move) (s : State) : Host.Outcome State Fault Refusal :=
  match m with
  | .produce b => exec (.produce b) s
  | .consume => exec .consume s
  | .poll a => exec (pollInstr a s) s
  | .cmd => exec .cmd s
  | .hostByte c => hostByte c s

/-- One step: the boot step of R280 where it is still to come, else the next agent's move. -/
def step (s : State) : Host.Outcome State Fault Refusal :=
  if s.booting then exec (.modeSwitch s.cfg.initialVariant) { s with booting := false }
  else runMove (nextMove s) (takeMove s)

/-- `s` with a host command placed where the next step fetches it: its byte at the head of `cmd_queue`,
and CORE's CMD the next move (notes/assumptions/7.md). -/
def State.withFetchWord (s : State) (nbits w : Nat) : State :=
  { s with
    booting := false
    agenda := .cmd :: s.agenda
    cmdQueue := wordBytes (nbits / 8) w ++ s.cmdQueue }

end Sys2Proof.Machine
end

