-- ==== Sys2Proof/Safety.lean ====
section
/-! DEFINITION. What a sound state of the block is (10_state.md rule R59 and the ranges of R30 to R51),
what the host observes (R56, R262), and what a run and a fair schedule are (R221, R294). -/

namespace Sys2Proof.Machine

/-- The block runs: a configuration that has a run (R9), and no handoff yet (R294). -/
def Running (s : State) : Prop := s.cfg.wf = true ∧ s.terminal = false

/-- The storage spaces are in canonical form and inside their sizes (R70). -/
structure MemoryInv (s : State) : Prop where
  ring_wf : s.ring.wf = true
  line_wf : s.lineBuf.wf = true
  ping_wf : s.bufPing.wf = true
  pong_wf : s.bufPong.wf = true
  ring_within : s.ring.within s.cfg.ringN = true
  line_within : s.lineBuf.within s.cfg.maxRecord = true
  ping_within : s.bufPing.within s.cfg.bufferSize = true
  pong_within : s.bufPong.within s.cfg.bufferSize = true

/-- The byte ring: the cursors are the ghost counts modulo `RING_N` (R33, R34, R36), no more is
consumed than produced, and without an overrun fewer than `RING_N` bytes are unread (R127). I8 of R59:
capture is enabled between steps. -/
structure RingInv (s : State) : Prop where
  prod : s.prodCursor = s.produced % s.cfg.ringN
  cons : s.consCursor = s.consumed % s.cfg.ringN
  order : s.consumed ≤ s.produced
  room : s.overrun = false → s.produced - s.consumed < s.cfg.ringN
  capture : s.captureEnabled = true

/-- The line parser: I4 of R59, `line_count` 0 outside a record (R40), the row accepted once the row
byte is read (R144), the gap budget (R42), and no lock in ScanningForSync (R142). -/
structure ParserInv (s : State) : Prop where
  open_iff : s.pstate = .readingLine ↔ 1 ≤ s.lineCount ∧ s.lineCount < s.desc.recordSize
  closed : s.pstate ≠ .readingLine → s.lineCount = 0
  row : 2 ≤ s.lineCount → s.rowAddr.toNat < s.desc.totalLines
  gap : s.pstate = .scanningGap → 1 ≤ s.gapRemaining
  gap_le : s.gapRemaining ≤ s.cfg.maxGap + s.cfg.maxRecord
  unlocked : s.pstate = .scanningForSync → s.frameLocked = false

/-- The frame assembler: I5, I6 and I7 of R59, and R182: a row placed in the current frame is at most
the previous validated line's row. -/
structure AssemblerInv (s : State) : Prop where
  count : s.placedCount = placedBelow s.placed s.desc.height
  above : ∀ r, s.desc.height ≤ r → isPlaced s r = false
  blank : ∀ r c, r < s.desc.height → c < s.desc.width → isPlaced s r = false →
    bufRead s s.active (r * s.desc.width + c) = 0
  order : ∀ r, isPlaced s r = true → r ≤ s.prevRow.toNat

/-- The frame sender: I2 and I3 of R59. -/
structure SenderInv (s : State) : Prop where
  idle : s.pending = false → s.sendCursor = 0
  sending : s.pending = true → s.sendCursor < packetSize s

/-- A sound state: a configuration that has a run (R9), and the invariants of every unit. -/
structure Inv (s : State) : Prop where
  cfg : s.cfg.wf = true
  memory : MemoryInv s
  ring : RingInv s
  parser : ParserInv s
  assembler : AssemblerInv s
  sender : SenderInv s

/-- The bytes the host receives by one record of the history (R262, R109). -/
def Event.hostBytes : Event → List Byte
  | .chanWrite offered accepted => offered.take accepted
  | .chanText text => text
  | _ => []

/-- The bytes the host has received, in order (R81). -/
def hostStream (s : State) : List Byte := s.history.flatMap Event.hostBytes

/-- The unread bytes of the ring, oldest first (R71). -/
def unread (s : State) : List Byte := ringBytes s (available s)

/-- The line records of the rows `r`, `r + 1`, … with these payloads and correct CRCs, one after
another with no filler (R108, S6 of 95_test_vectors.md). -/
def frameRecords (c : Config) : Nat → List (List Byte) → List Byte
  | _, [] => []
  | r, p :: ps => goodRecord c (BitVec.ofNat 8 r) p ++ frameRecords c (r + 1) ps

/-- CRC-16/CCITT-FALSE bit by bit, with no table: polynomial 0x1021, from 0xFFFF, most significant bit
first (R96). -/
def crcBitwise (bs : List Byte) : Half :=
  bs.foldl (fun c b => crcRounds 8 (c ^^^ halfOf b 0)) 0xFFFF

/-- The variant that the next step switches to, if it is a mode switch: the boot step of R280, or a CMD
whose byte is a mode command (R222-R224). -/
def modeSwitchNext (s : State) : Option Variant :=
  if s.booting then some s.cfg.initialVariant
  else match nextMove s, s.cmdQueue with
    | .cmd, c :: _ =>
      match decodeCommand c with
      | .modeNarrow _ => some .narrow
      | .modeWide _ => some .wide
      | .status _ => none
      | .clearStats _ => none
      | .fwUpdate _ => none
      | .ignore _ => none
    | _, _ => none

/-- The row byte has just been stored: `line_count` has become 2 in ReadingLine (R141, R143). -/
def RowByteStored (s : State) : Prop := s.pstate = .readingLine ∧ s.lineCount = 2

/-- The row byte of the record decodes below `T` (R144). -/
def RowBelowT (s : State) : Prop :=
  (s.desc.row (Memory.read s.lineBuf 1)).toNat < s.desc.totalLines

/-- What selects each operation while the block runs: the "selected by" of R110 and of the opcode table, with
the operands its rule names. The rows inside PARSE are selected as of the state in the middle of that PARSE
(notes/assumptions/10.md), the rows of the frame assembler by the operands of notes/assumptions/19.md. What
HOST answers is part of the operand: POLL_DISCONNECT and POLL_WRITE need an occupied slot only. -/
def Selected (s : State) : Instr → Prop
  | .modeNarrow _ => True
  | .modeWide _ => True
  | .status _ => True
  | .clearStats _ => True
  | .fwUpdate _ => True
  | .ignore c => ∀ code ∈ [0x4E, 0x4F, 0x53, 0x52, 0x42], c &&& 0xDF ≠ code
  | .produce _ => s.captureEnabled = true
  | .consume => True
  | .parseSfs _ => s.pstate = .scanningForSync
  | .parseRlAccumulate _ => s.pstate = .readingLine
  | .parseRlRowInRange => RowByteStored s ∧ RowBelowT s
  | .parseRlRowLocked => RowByteStored s ∧ ¬ RowBelowT s ∧ s.frameLocked = true
  | .parseRlRowFalseSync =>
    RowByteStored s ∧ ¬ RowBelowT s ∧ s.frameLocked = false ∧ Memory.read s.lineBuf 1 = s.cfg.sync
  | .parseRlRowFallback =>
    RowByteStored s ∧ ¬ RowBelowT s ∧ s.frameLocked = false ∧ Memory.read s.lineBuf 1 ≠ s.cfg.sync
  | .parseRlComplete => s.pstate = .readingLine ∧ s.lineCount = s.desc.recordSize
  | .parseRlCrcMismatch => s.pstate = .readingLine ∧ s.lineCount = 0 ∧ crcCalc s ≠ crcField s
  | .parseRlCrcMatch => s.pstate = .readingLine ∧ s.lineCount = 0 ∧ crcCalc s = crcField s
  | .parseSgSync b => s.pstate = .scanningGap ∧ b = s.cfg.sync
  | .parseSgFill b => s.pstate = .scanningGap ∧ b ≠ s.cfg.sync ∧ 2 ≤ s.gapRemaining
  | .parseSgExhaust b => s.pstate = .scanningGap ∧ b ≠ s.cfg.sync ∧ s.gapRemaining ≤ 1
  | .handleLine row bytes => row.toNat < s.desc.totalLines ∧ bytes.length = s.desc.width
  | .boundaryDrop row =>
    row.toNat < s.desc.totalLines ∧ 0 < s.placedCount ∧ row ≤ s.prevRow ∧ s.pending = true
  | .boundaryHandoff row =>
    row.toNat < s.desc.totalLines ∧ 0 < s.placedCount ∧ row ≤ s.prevRow ∧ s.pending = false
  | .place row bytes => row.toNat < s.desc.height ∧ bytes.length = s.desc.width
  | .pollIdle => s.pending = false
  | .pollDisconnect => s.pending = true
  | .pollWrite _ _ => s.pending = true
  | .pollComplete => s.pending = true ∧ s.sendCursor = 8 + s.desc.width * s.desc.height
  | .cmd => s.cmdQueue ≠ []
  | .modeSwitch _ => True

/-- An endless run `σ` of the agents' moves `μ`: every move is a step that goes on (R294: a run without
`terminal` has no end). -/
def IsRun (σ : Nat → State) (μ : Nat → Move) : Prop := ∀ n, runMove (μ n) (σ n) = .next (σ (n + 1))

/-- The weak fairness of R221: CONSUME and POLL are taken infinitely often, and so is CMD where the
command queue is infinitely often not empty. -/
def WeaklyFair (σ : Nat → State) (μ : Nat → Move) : Prop :=
  (∀ n, ∃ m, n ≤ m ∧ μ m = .consume) ∧
  (∀ n, ∃ m, n ≤ m ∧ ∃ a, μ m = .poll a) ∧
  ((∀ n, ∃ m, n ≤ m ∧ (σ m).cmdQueue ≠ []) → ∀ n, ∃ m, n ≤ m ∧ μ m = .cmd)

end Sys2Proof.Machine
end

