-- ==== Sys2Proof/Certificates/Slice0/Obligations.lean ====
section
/-! DEFINITION. The statements about the block, from the numbered rules of the spec. Each is made of
every configuration and of every state that meets its premises. -/

open Sys2Proof Sys2Proof.Machine

/-! ## Host commands: decode and encode -/

/-- R103 for every one of the 256 bytes: what `c & 0xDF` selects, and nothing else selects it. -/
def Obligations.CommandByteSelectsByFoldedCase : Prop :=
  ∀ c : Byte,
    ((∃ k, decodeCommand c = .modeNarrow k) ↔ c &&& 0xDF = 0x4E) ∧
    ((∃ k, decodeCommand c = .modeWide k) ↔ c &&& 0xDF = 0x4F) ∧
    ((∃ k, decodeCommand c = .status k) ↔ c &&& 0xDF = 0x53) ∧
    ((∃ k, decodeCommand c = .clearStats k) ↔ c &&& 0xDF = 0x52) ∧
    ((∃ k, decodeCommand c = .fwUpdate k) ↔ c &&& 0xDF = 0x42) ∧
    ((∃ x, decodeCommand c = .ignore x) ↔
      c &&& 0xDF ≠ 0x4E ∧ c &&& 0xDF ≠ 0x4F ∧ c &&& 0xDF ≠ 0x53 ∧ c &&& 0xDF ≠ 0x52 ∧
        c &&& 0xDF ≠ 0x42)

/-- Decode and encode agree on the host commands, whatever bytes follow, and on every byte. R103 says that
bit 5 selects nothing; that a decoded command keeps it, so that the second clause holds, is the model's
choice (notes/assumptions/12.md). -/
def Obligations.CommandDecodeAndEncodeAgree : Prop :=
  (∀ (d : Descriptor) (i : Instr) (bytes rest : List Byte), i.wf d = true → encode i = some bytes →
    decode (bytes ++ rest) = .ok (i, rest)) ∧
  (∀ (c : Byte) (rest : List Byte), ∃ i, decode (c :: rest) = .ok (i, rest) ∧ encode i = some [c])

/-- The ten command bytes of R102 and two ignored ones, written out. -/
def Obligations.CommandBytesOfTheSpecDecode : Prop :=
  decode [0x4E] = .ok (.modeNarrow .upper, []) ∧ decode [0x6E] = .ok (.modeNarrow .lower, []) ∧
  decode [0x4F] = .ok (.modeWide .upper, []) ∧ decode [0x6F] = .ok (.modeWide .lower, []) ∧
  decode [0x53] = .ok (.status .upper, []) ∧ decode [0x73] = .ok (.status .lower, []) ∧
  decode [0x52] = .ok (.clearStats .upper, []) ∧ decode [0x72] = .ok (.clearStats .lower, []) ∧
  decode [0x42] = .ok (.fwUpdate .upper, []) ∧ decode [0x62] = .ok (.fwUpdate .lower, []) ∧
  decode [0x78] = .ok (.ignore 0x78, []) ∧ decode [0xCE] = .ok (.ignore 0xCE, [])

/-! ## The byte ring -/

/-- R121: PRODUCE writes its byte at P, whatever is there, advances P, and counts in the ghosts; while
capture is halted, and after the handoff, it has no step (the names of the refusals are the model's,
notes/assumptions/6.md). -/
def Obligations.ProduceStoresTheByteAndAdvancesTheCursor : Prop :=
  ∀ (s : State) (b : Byte), s.cfg.wf = true → s.ring.wf = true →
    (s.captureEnabled = true → s.terminal = false → ∃ m,
      exec (.produce b) s = .next { s with
        ring := m
        prodCursor := (s.prodCursor + 1) % s.cfg.ringN
        produced := s.produced + 1
        overrun := s.overrun || decide (s.cfg.ringN ≤ s.produced + 1 - s.consumed) } ∧
      ∀ a, Memory.read m a = if a = s.prodCursor % s.cfg.ringN then b else Memory.read s.ring a) ∧
    (s.captureEnabled = false → s.terminal = false → exec (.produce b) s = .refused .notEnabled) ∧
    (s.terminal = true → exec (.produce b) s = .refused .handedOff)

/-- R123: CONSUME samples the occupancy once, hands the batch of oldest bytes to PARSE in order, and
advances C by the size of the batch. -/
def Obligations.ConsumeParsesOneBatchInArrivalOrder : Prop :=
  ∀ s : State, Running s →
    (s.pstate = .readingLine → 1 ≤ s.lineCount ∧ s.lineCount < s.desc.recordSize) →
    let a := available s
    let n := min a s.cfg.batchMax
    let bytes := (List.range n).map (fun i => Memory.read s.ring ((s.consCursor + i) % s.cfg.ringN))
    let u := parseBytes bytes { s with stats := { s.stats with
      peakOccupancy := BitVec.ofNat 32 (max s.stats.peakOccupancy.toNat a) } }
    exec .consume s = .next { u with
      consCursor := (s.consCursor + n) % s.cfg.ringN, consumed := s.consumed + n }

/-- What a CONSUME leaves, whatever its batch parses to (R61, R123): the ring, the producer's state, the
variant, and everything of the mode controller and of HOST; and, of a pending frame (R183), the slot, the
cursor, the header, the role of the buffers and every byte of the pending one. -/
def Obligations.ConsumeLeavesProducerAndController : Prop :=
  ∀ s t : State, exec .consume s = .next t →
    t.cfg = s.cfg ∧ t.variant = s.variant ∧ t.ring = s.ring ∧ t.prodCursor = s.prodCursor ∧
    t.captureEnabled = s.captureEnabled ∧ t.produced = s.produced ∧ t.overrun = s.overrun ∧
    t.terminal = s.terminal ∧ t.cmdQueue = s.cmdQueue ∧
    t.stats.bytesForwarded = s.stats.bytesForwarded ∧
    (s.pending = true → t.pending = true ∧ t.sendCursor = s.sendCursor ∧ t.hdr = s.hdr ∧
      t.active = s.active ∧ buffer t s.active.other = buffer s s.active.other)

/-- R71, R122, R124: while there is room, the ring is a FIFO queue. A byte produced comes last, and a
CONSUME takes exactly its batch from the front. -/
def Obligations.RingIsAFifoQueueWhileThereIsRoom : Prop :=
  ∀ s : State, Inv s → s.terminal = false →
    (unread s).length = (s.produced - s.consumed) % s.cfg.ringN ∧
    (∀ b : Byte, s.overrun = false → s.produced - s.consumed + 1 < s.cfg.ringN →
      ∃ t, exec (.produce b) s = .next t ∧ t.overrun = false ∧ unread t = unread s ++ [b]) ∧
    (∃ t, exec .consume s = .next t ∧
      unread t = (unread s).drop (min (unread s).length s.cfg.batchMax) ∧
      t.consumed = s.consumed + min (unread s).length s.cfg.batchMax)

/-- R71, R72, R124, R225: what every step does to the queue of unread bytes. PRODUCE appends its byte while
there is room, and the write that laps the consumer empties the queue and sets the ghost (R86, R127);
CONSUME takes its batch from the front; a mode switch empties it; every other step leaves it. -/
def Obligations.EveryStepTreatsTheRingAsAQueue : Prop :=
  ∀ s t : State, Inv s → step s = .next t →
    (∀ v, modeSwitchNext s = some v → unread t = []) ∧
    (modeSwitchNext s = none →
      (∀ b, nextMove s = .produce b → s.overrun = false →
        (s.produced - s.consumed + 1 < s.cfg.ringN → unread t = unread s ++ [b]) ∧
        (s.produced - s.consumed + 1 = s.cfg.ringN → unread t = [] ∧ t.overrun = true)) ∧
      (nextMove s = .consume → unread t = (unread s).drop s.cfg.batchMax) ∧
      ((∀ b, nextMove s ≠ .produce b) → nextMove s ≠ .consume → unread t = unread s))

/-- R127: a write that laps the consumer sets the ghost and leaves `available()` at 0 with `RING_N` bytes
unread: the overrun the block does not detect (R86). -/
def Obligations.LappingWriteIsAnUndetectedOverrun : Prop :=
  ∀ (s : State) (b : Byte), Inv s → s.terminal = false →
    s.produced - s.consumed + 1 = s.cfg.ringN →
    ∃ t, exec (.produce b) s = .next t ∧ t.overrun = true ∧ available t = 0 ∧
      t.prodCursor = t.consCursor

/-! ## The line parser -/

/-- R141, R124: a batch is parsed byte by byte, each PARSE on the state the one before it left, and each is
what the row does that the dispatch selects for that state and byte. -/
def Obligations.ParseRunsTheRowItsDispatchSelects : Prop :=
  (∀ s : State, parseBytes [] s = s) ∧
  (∀ (b : Byte) (bs : List Byte) (s : State), parseBytes (b :: bs) s = parseBytes bs (parse b s)) ∧
  (∀ (s : State) (b : Byte), Running s →
    (s.pstate = .scanningForSync → exec (.parseSfs b) s = .next (parse b s)) ∧
    (s.pstate = .readingLine → 1 ≤ s.lineCount → s.lineCount < s.desc.recordSize →
      exec (.parseRlAccumulate b) s = .next (parse b s)) ∧
    (s.pstate = .scanningGap → b = s.cfg.sync → exec (.parseSgSync b) s = .next (parse b s)) ∧
    (s.pstate = .scanningGap → b ≠ s.cfg.sync → 2 ≤ s.gapRemaining →
      exec (.parseSgFill b) s = .next (parse b s)) ∧
    (s.pstate = .scanningGap → b ≠ s.cfg.sync → s.gapRemaining ≤ 1 →
      exec (.parseSgExhaust b) s = .next (parse b s)))

/-- R142: in ScanningForSync a sync byte starts a record, any other byte is discarded and counted
nowhere. -/
def Obligations.ScanningForSyncStartsARecordOrDiscards : Prop :=
  ∀ (s : State) (b : Byte), Running s → s.pstate = .scanningForSync → s.lineBuf.wf = true →
    (b = s.cfg.sync → ∃ m,
      exec (.parseSfs b) s = .next { s with lineBuf := m, lineCount := 1, pstate := .readingLine } ∧
      ∀ a, Memory.read m a = if a = 0 then b else Memory.read s.lineBuf a) ∧
    (b ≠ s.cfg.sync → exec (.parseSfs b) s = .next s)

/-- R143 and the dispatch of R141 in ReadingLine: the byte is stored whatever its value, then comes the
row rule that the byte selects, the completion, or nothing. -/
def Obligations.ReadingLineStoresTheByteThenChecks : Prop :=
  ∀ (s : State) (b : Byte), Running s → s.pstate = .readingLine → s.lineBuf.wf = true →
    1 ≤ s.lineCount → s.lineCount < s.desc.recordSize →
    ∃ m, (∀ a, Memory.read m a = if a = s.lineCount then b else Memory.read s.lineBuf a) ∧
      (let u := { s with lineBuf := m, lineCount := s.lineCount + 1 }
       let r := (s.desc.row b).toNat
       (2 < u.lineCount → u.lineCount < s.desc.recordSize →
          exec (.parseRlAccumulate b) s = .next u) ∧
       (u.lineCount = s.desc.recordSize →
          exec (.parseRlAccumulate b) s = exec .parseRlComplete u) ∧
       (u.lineCount = 2 → r < s.desc.totalLines →
          exec (.parseRlAccumulate b) s = exec .parseRlRowInRange u) ∧
       (u.lineCount = 2 → s.desc.totalLines ≤ r → s.frameLocked = true →
          exec (.parseRlAccumulate b) s = exec .parseRlRowLocked u) ∧
       (u.lineCount = 2 → s.desc.totalLines ≤ r → s.frameLocked = false → b = s.cfg.sync →
          exec (.parseRlAccumulate b) s = exec .parseRlRowFalseSync u) ∧
       (u.lineCount = 2 → s.desc.totalLines ≤ r → s.frameLocked = false → b ≠ s.cfg.sync →
          exec (.parseRlAccumulate b) s = exec .parseRlRowFallback u)) ∧
      ∃ t, exec (.parseRlAccumulate b) s = .next t

/-- R144 to R147: the four rules of the row check, each with all it writes. -/
def Obligations.RowCheckHasFourOutcomes : Prop :=
  ∀ s : State, Running s → s.pstate = .readingLine → s.lineCount = 2 → s.lineBuf.wf = true →
    let b := Memory.read s.lineBuf 1
    let r := s.desc.row b
    (r.toNat < s.desc.totalLines → exec .parseRlRowInRange s = .next { s with rowAddr := r }) ∧
    (s.desc.totalLines ≤ r.toNat → s.frameLocked = true →
      exec .parseRlRowLocked s = .next { s with
        lineCount := 0
        gapRemaining := s.cfg.maxGap + s.desc.recordSize
        pstate := .scanningGap
        history := s.history ++ [.rowRangeLocked r] }) ∧
    (s.desc.totalLines ≤ r.toNat → s.frameLocked = false → b = s.cfg.sync → ∃ m,
      exec .parseRlRowFalseSync s = .next { s with
        lineBuf := m, lineCount := 1, history := s.history ++ [.falseSync b] } ∧
      ∀ a, Memory.read m a = if a = 0 then b else Memory.read s.lineBuf a) ∧
    (s.desc.totalLines ≤ r.toNat → s.frameLocked = false → b ≠ s.cfg.sync →
      exec .parseRlRowFallback s = .next { s with
        lineCount := 0
        pstate := .scanningForSync
        history := s.history ++ [.falseSync b] })

/-- R123 with R145, R146 and R147: a CONSUME whose batch is a sync byte and a row byte out of range, from a
state outside a record. Locked, it ends in ScanningGap with the extended budget (S8 of
95_test_vectors.md); unlocked, a sync byte starts the record anew, and any other byte ends in
ScanningForSync. Below it S7: after a false sync the record that follows is parsed as if the false one had
not been there, but for its event. -/
def Obligations.ConsumeAppliesTheRowRulesOutOfRange : Prop :=
  (∀ (s : State) (b : Byte), Running s → s.lineBuf.wf = true → s.pstate ≠ .readingLine →
    min (available s) s.cfg.batchMax = 2 →
    Memory.read s.ring (s.consCursor % s.cfg.ringN) = s.cfg.sync →
    Memory.read s.ring ((s.consCursor + 1) % s.cfg.ringN) = b →
    s.desc.totalLines ≤ (s.desc.row b).toNat →
    ∃ m, (∀ a, Memory.read m a =
        if a = 0 then s.cfg.sync else if a = 1 then b else Memory.read s.lineBuf a) ∧
      (let u := { s with
        lineBuf := m
        consCursor := (s.consCursor + 2) % s.cfg.ringN
        consumed := s.consumed + 2
        stats := { s.stats with
          peakOccupancy := BitVec.ofNat 32 (max s.stats.peakOccupancy.toNat (available s)) } }
       (s.frameLocked = true → exec .consume s = .next { u with
          lineCount := 0
          gapRemaining := s.cfg.maxGap + s.desc.recordSize
          pstate := .scanningGap
          history := s.history ++ [.rowRangeLocked (s.desc.row b)] }) ∧
       (s.frameLocked = false → b = s.cfg.sync → exec .consume s = .next { u with
          lineCount := 1
          pstate := .readingLine
          history := s.history ++ [.falseSync b] }) ∧
       (s.frameLocked = false → b ≠ s.cfg.sync → exec .consume s = .next { u with
          lineCount := 0
          pstate := .scanningForSync
          history := s.history ++ [.falseSync b] }))) ∧
  (∀ (s : State) (rowB : Byte) (rest : List Byte), s.lineBuf.wf = true → s.pstate ≠ .readingLine →
    s.frameLocked = false →
    s.desc.totalLines ≤ (s.desc.row s.cfg.sync).toNat →
    parseBytes (s.cfg.sync :: s.cfg.sync :: rowB :: rest) s =
      parseBytes (s.cfg.sync :: rowB :: rest)
        { s with history := s.history ++ [.falseSync s.cfg.sync] })

/-- R148, R149: completion takes the record, and the exact comparison of the CRC of the W payload bytes
with the received field decides which rule follows. -/
def Obligations.CompletionComparesTheCrc : Prop :=
  ∀ s : State, Running s → s.pstate = .readingLine → s.lineCount = s.desc.recordSize →
    let w := s.desc.width
    let computed := crc16 (Memory.readBytes s.lineBuf 2 w)
    let x := Memory.read s.lineBuf (w + 2)
    let y := Memory.read s.lineBuf (w + 3)
    let field := match s.cfg.crcOrder with
      | .highFirst => x ++ y
      | .lowFirst => y ++ x
    let u := { s with lineCount := 0 }
    (computed = field → exec .parseRlComplete s = exec .parseRlCrcMatch u) ∧
    (computed ≠ field → exec .parseRlComplete s = exec .parseRlCrcMismatch u) ∧
    ∃ t, exec .parseRlComplete s = .next t

/-- R150: a mismatch is counted and recorded, extends the budget, and places nothing. -/
def Obligations.CrcMismatchCountsAndExtendsTheGap : Prop :=
  ∀ s : State, Running s → s.pstate = .readingLine → s.lineCount = 0 → crcCalc s ≠ crcField s →
    exec .parseRlCrcMismatch s = .next { s with
      stats := { s.stats with crcErr := s.stats.crcErr + 1 }
      gapRemaining := s.cfg.maxGap + s.desc.recordSize
      pstate := .scanningGap
      history := s.history ++ [.crcMismatch s.rowAddr (crcCalc s) (crcField s)] }

/-- R151: a match is counted, the line handled with its row and payload, the lock set, and the nominal
budget granted. -/
def Obligations.CrcMatchHandlesTheLineAndLocks : Prop :=
  ∀ s : State, Running s → s.pstate = .readingLine → s.lineCount = 0 → crcCalc s = crcField s →
    s.rowAddr.toNat < s.desc.totalLines →
    ∃ u, exec (.handleLine s.rowAddr (Memory.readBytes s.lineBuf 2 s.desc.width))
        { s with stats := { s.stats with crcOk := s.stats.crcOk + 1 } } = .next u ∧
      exec .parseRlCrcMatch s = .next { u with
        frameLocked := true, gapRemaining := s.cfg.maxGap, pstate := .scanningGap }

/-- R152, R153, R154: the three rules of ScanningGap, each with all it writes. -/
def Obligations.ScanningGapHasThreeOutcomes : Prop :=
  ∀ (s : State) (b : Byte), Running s → s.pstate = .scanningGap → s.lineBuf.wf = true →
    (b = s.cfg.sync → ∃ m,
      exec (.parseSgSync b) s = .next { s with lineBuf := m, lineCount := 1, pstate := .readingLine } ∧
      ∀ a, Memory.read m a = if a = 0 then b else Memory.read s.lineBuf a) ∧
    (b ≠ s.cfg.sync → 2 ≤ s.gapRemaining →
      exec (.parseSgFill b) s = .next { s with
        stats := { s.stats with gapBytes := s.stats.gapBytes + 1 }
        gapRemaining := s.gapRemaining - 1 }) ∧
    (b ≠ s.cfg.sync → s.gapRemaining ≤ 1 →
      exec (.parseSgExhaust b) s = .next { s with
        stats := { s.stats with
          gapBytes := s.stats.gapBytes + 1, resync := s.stats.resync + 1 }
        gapRemaining := 0
        frameLocked := false
        pstate := .scanningForSync
        history := s.history ++ [.alignmentLost] })

/-- R155: with budget B, up to B - 1 consecutive non-sync bytes are tolerated, and the B-th loses the
alignment. -/
def Obligations.GapBudgetToleratesOneLessThanItself : Prop :=
  ∀ (s : State) (bs : List Byte), s.pstate = .scanningGap → 1 ≤ s.gapRemaining →
    (∀ b ∈ bs, b ≠ s.cfg.sync) →
    (bs.length < s.gapRemaining →
      parseBytes bs s = { s with
        gapRemaining := s.gapRemaining - bs.length
        stats := { s.stats with gapBytes := s.stats.gapBytes + BitVec.ofNat 32 bs.length } }) ∧
    (bs.length = s.gapRemaining →
      parseBytes bs s = { s with
        gapRemaining := 0
        frameLocked := false
        pstate := .scanningForSync
        stats := { s.stats with
          gapBytes := s.stats.gapBytes + BitVec.ofNat 32 bs.length
          resync := s.stats.resync + 1 }
        history := s.history ++ [.alignmentLost] })

/-- R156: PARSE changes `frame_locked` in two ways only, the set of R151 and the clear of R154. -/
def Obligations.FrameLockIsSetByAMatchAndClearedByExhaustion : Prop :=
  ∀ (s : State) (b : Byte), (parse b s).frameLocked ≠ s.frameLocked →
    ((parse b s).frameLocked = true ∧ (parse b s).stats.crcOk = s.stats.crcOk + 1 ∧
      (parse b s).gapRemaining = s.cfg.maxGap ∧ (parse b s).pstate = .scanningGap) ∨
    ((parse b s).frameLocked = false ∧ s.pstate = .scanningGap ∧ s.gapRemaining ≤ 1 ∧
      b ≠ s.cfg.sync ∧ (parse b s).stats.resync = s.stats.resync + 1 ∧
      (parse b s).pstate = .scanningForSync)

/-- The line record that the encoder writes (R90, R108) is read back by the parser as a validated line:
from a state outside a record, its L bytes end in ScanningGap, locked, with the nominal budget, after
HANDLE_LINE of its decoded row and its payload. -/
def Obligations.EncodedLineRecordIsValidated : Prop :=
  ∀ (s : State) (rowB : Byte) (bytes : List Byte), Running s → s.lineBuf.wf = true →
    s.pstate ≠ .readingLine → bytes.length = s.desc.width →
    (s.desc.row rowB).toNat < s.desc.totalLines →
    ∃ m u,
      (∀ a, Memory.read m a = (goodRecord s.cfg rowB bytes)[a]?.getD (Memory.read s.lineBuf a)) ∧
      exec (.handleLine (s.desc.row rowB) bytes) { s with
        lineBuf := m
        lineCount := 0
        pstate := .readingLine
        rowAddr := s.desc.row rowB
        stats := { s.stats with crcOk := s.stats.crcOk + 1 } } = .next u ∧
      parseBytes (goodRecord s.cfg rowB bytes) s = { u with
        frameLocked := true, gapRemaining := s.cfg.maxGap, pstate := .scanningGap }

/-- A line record whose CRC field is not the CRC of its payload is never placed (R106, R150): the
counter goes up by one, and nothing outside the parser changes. -/
def Obligations.LineRecordWithAWrongCrcIsNeverPlaced : Prop :=
  ∀ (s : State) (rowB : Byte) (bytes : List Byte) (crc : Half), Running s → s.lineBuf.wf = true →
    s.pstate ≠ .readingLine → bytes.length = s.desc.width →
    (s.desc.row rowB).toNat < s.desc.totalLines → crc ≠ crc16 bytes →
    ∃ m,
      (∀ a, Memory.read m a =
        (lineRecord s.cfg rowB bytes crc)[a]?.getD (Memory.read s.lineBuf a)) ∧
      parseBytes (lineRecord s.cfg rowB bytes crc) s = { s with
        lineBuf := m
        lineCount := 0
        rowAddr := s.desc.row rowB
        stats := { s.stats with crcErr := s.stats.crcErr + 1 }
        gapRemaining := s.cfg.maxGap + s.desc.recordSize
        pstate := .scanningGap
        history := s.history ++ [.crcMismatch (s.desc.row rowB) (crc16 bytes) crc] }

/-- R96: the table-driven CRC is the bitwise CRC, on every byte string. -/
def Obligations.TableDrivenCrcIsTheBitwiseCrc : Prop :=
  ∀ bs : List Byte, crc16 bs = crcBitwise bs

/-- MODEL'S CHOICE (notes/assumptions/8.md), not the spec's: where `line_count` has left 1..L-1 in
ReadingLine, which no run reaches (I4 of R59), a byte is not stored and the step faults by name. -/
def Obligations.ByteOutsideTheRecordFaults : Prop :=
  ∀ s : State, Running s → s.pstate = .readingLine →
    ¬(1 ≤ s.lineCount ∧ s.lineCount < s.desc.recordSize) →
    (∀ b, exec (.parseRlAccumulate b) s = .fault .recordIndex) ∧
    (1 ≤ available s → exec .consume s = .fault .recordIndex)

/-! ## The frame assembler -/

/-- R178, R179: PLACE writes the payload at byte offset `r * W` of the active buffer and nowhere else,
and marks and counts the row if it is new. -/
def Obligations.PlaceCopiesThePayloadToItsRow : Prop :=
  ∀ (s : State) (row : Byte) (bytes : List Byte), Running s → (buffer s s.active).wf = true →
    row.toNat < s.desc.height → bytes.length = s.desc.width →
    ∃ m, exec (.place row bytes) s = .next { setBuffer s.active m s with
        placed := s.placed ||| BitVec.twoPow 256 row.toNat
        placedCount := if s.placed.getLsbD row.toNat then s.placedCount else s.placedCount + 1 } ∧
      ∀ a, Memory.read m a =
        if row.toNat * s.desc.width ≤ a ∧ a < row.toNat * s.desc.width + s.desc.width
        then bytes.getD (a - row.toNat * s.desc.width) 0
        else Memory.read (buffer s s.active) a

/-- R174, R177: the drop counts, records, and clears the active buffer for reuse; the pending frame, its
header and the cursor stay. -/
def Obligations.DropLeavesThePendingFrame : Prop :=
  ∀ (s : State) (row : Byte), Running s → row.toNat < s.desc.totalLines →
    0 < s.placedCount → row ≤ s.prevRow → s.pending = true →
    ∃ m, exec (.boundaryDrop row) s = .next { setBuffer s.active m s with
        placed := 0
        placedCount := 0
        stats := { s.stats with framesDropped := s.stats.framesDropped + 1 }
        history := s.history ++ [.frameDropped s.frameId] } ∧
      ∀ a, Memory.read m a =
        if a < s.desc.width * s.desc.height then 0 else Memory.read (buffer s s.active) a

/-- R175, R176, R177: the handoff turns the active buffer into the pending frame without writing it,
stamps the header, counts, and clears the other buffer as the new active one. -/
def Obligations.HandoffSwapsTheBuffersAndStampsTheHeader : Prop :=
  ∀ (s : State) (row : Byte), Running s → row.toNat < s.desc.totalLines →
    0 < s.placedCount → row ≤ s.prevRow → s.pending = false →
    ∃ m, exec (.boundaryHandoff row) s = .next { setBuffer s.active.other m s with
        pending := true
        sendCursor := 0
        hdr := #v[s.cfg.magicA, s.cfg.magicB,
          s.frameId.setWidth 8, (s.frameId >>> 8).setWidth 8,
          BitVec.ofNat 8 s.desc.width, BitVec.ofNat 8 (s.desc.width / 256),
          BitVec.ofNat 8 s.desc.height, BitVec.ofNat 8 (s.desc.height / 256)]
        active := s.active.other
        placed := 0
        placedCount := 0
        stats := { s.stats with framesSent := s.stats.framesSent + 1 } } ∧
      ∀ a, Memory.read m a =
        if a < s.desc.width * s.desc.height then 0 else Memory.read (buffer s s.active.other) a

/-- R171, R172, R173, R180, R181: HANDLE_LINE in its order. A boundary increments the identifier, drops
or hands off, and the line then goes on as a line with no boundary; such a line is placed if its row is
active, is not placed if its row is a blanking row, and becomes the previous row. -/
def Obligations.HandleLineTakesTheBoundaryFirst : Prop :=
  ∀ (s : State) (row : Byte) (bytes : List Byte), Running s → row.toNat < s.desc.totalLines →
    bytes.length = s.desc.width →
    (∃ t, exec (.handleLine row bytes) s = .next t) ∧
    (¬(0 < s.placedCount ∧ row ≤ s.prevRow) → s.desc.height ≤ row.toNat →
      exec (.handleLine row bytes) s = .next { s with prevRow := row }) ∧
    (¬(0 < s.placedCount ∧ row ≤ s.prevRow) → row.toNat < s.desc.height →
      ∃ u, exec (.place row bytes) s = .next u ∧
        exec (.handleLine row bytes) s = .next { u with prevRow := row }) ∧
    (0 < s.placedCount → row ≤ s.prevRow →
      ∃ u, (if s.pending then exec (.boundaryDrop row) { s with frameId := s.frameId + 1 }
            else exec (.boundaryHandoff row) { s with frameId := s.frameId + 1 }) = .next u ∧
        u.placedCount = 0 ∧
        exec (.handleLine row bytes) s = exec (.handleLine row bytes) u)

/-- R173: one validated line moves the identifier by one, modulo 2^16, exactly when it makes a boundary,
whether the frame is dropped or handed off. -/
def Obligations.FrameIdCountsBoundaries : Prop :=
  ∀ (s t : State) (row : Byte) (bytes : List Byte), exec (.handleLine row bytes) s = .next t →
    t.frameId = (if 0 < s.placedCount ∧ row ≤ s.prevRow then s.frameId + 1 else s.frameId) ∧
    (t.stats.framesSent.toNat + t.stats.framesDropped.toNat) % 2 ^ 32 =
      (s.stats.framesSent.toNat + s.stats.framesDropped.toNat +
        (if 0 < s.placedCount ∧ row ≤ s.prevRow then 1 else 0)) % 2 ^ 32

/-- R183, R84: no step writes the pending buffer, its header or the role of the buffers while the slot
stays occupied. -/
def Obligations.PendingFrameIsNeverWritten : Prop :=
  ∀ s t : State, step s = .next t → s.pending = true → t.pending = true →
    t.active = s.active ∧ buffer t t.active.other = buffer s s.active.other ∧ t.hdr = s.hdr ∧
    t.desc = s.desc ∧ s.sendCursor ≤ t.sendCursor

/-- S6 (§8 item 6), R185: the records of rows 0 to H-1 in order, then one more record of row 0, hand off
one frame whose pixel grid is the payloads in order and whose header is that of the next identifier. -/
def Obligations.OrderedLinesMakeOneFrame : Prop :=
  ∀ (s : State) (ps : List (List Byte)) (last : List Byte), Inv s → s.terminal = false →
    s.pstate ≠ .readingLine → s.placedCount = 0 → s.pending = false →
    s.desc.rowDecode = .direct → ps.length = s.desc.height →
    (∀ p ∈ ps, p.length = s.desc.width) → last.length = s.desc.width →
    let t := parseBytes (frameRecords s.cfg 0 ps ++ goodRecord s.cfg 0 last) s
    t.pending = true ∧ t.sendCursor = 0 ∧ t.frameId = s.frameId + 1 ∧
    t.hdr = headerBytes s.cfg s.desc (s.frameId + 1) ∧
    Memory.readBytes (buffer t t.active.other) 0 s.desc.frameSize = ps.flatten ∧
    Memory.readBytes (buffer t t.active) 0 s.desc.width = last ∧
    t.placedCount = 1 ∧ t.frameLocked = true ∧ t.pstate = .scanningGap ∧
    t.stats.crcOk = s.stats.crcOk + BitVec.ofNat 32 (s.desc.height + 1) ∧
    t.stats.framesSent = s.stats.framesSent + 1 ∧ t.stats.framesDropped = s.stats.framesDropped

/-- R45: one buffer is active; the other is pending-send while the slot is occupied, else idle. A handoff
makes the completed buffer pending-send and the other active; the end of a send, or its abandonment,
makes the sent one idle. -/
def Obligations.BufferRolesFollowTheSlot : Prop :=
  ∀ s : State,
    (∀ k, role s k = .active ↔ k = s.active) ∧
    (∀ k, role s k = .pendingSend ↔ k ≠ s.active ∧ s.pending = true) ∧
    (∀ k, role s k = .idle ↔ k ≠ s.active ∧ s.pending = false) ∧
    (∀ row t, exec (.boundaryHandoff row) s = .next t →
      role t s.active = .pendingSend ∧ role t s.active.other = .active) ∧
    (∀ i ∈ [Instr.pollDisconnect, .pollComplete], ∀ t, exec i s = .next t →
      role s s.active.other = .pendingSend ∧ role t s.active.other = .idle ∧
        role t s.active = .active)

/-! ## The frame sender -/

/-- R202, R203: a POLL with no frame pending does nothing; one whose peer is gone abandons the frame and
frees the slot, with no write, no flush and no count. -/
def Obligations.PollIdleAndDisconnect : Prop :=
  ∀ s : State, Running s →
    (s.pending = false → exec .pollIdle s = .next s) ∧
    (s.pending = true → exec .pollDisconnect s = .next { s with
      pending := false, sendCursor := 0, history := s.history ++ [.sendAbandoned] })

/-- R204: the offer is what the channel has room for of what is left; the cursor and the counter move by
what the channel accepts; the end of the packet brings the completion of R205 in the same POLL. An answer
above the offer has no move; that this outcome is the refusal `hostContract` is the model's choice
(notes/assumptions/6.md). -/
def Obligations.PollWriteAdvancesByWhatIsAccepted : Prop :=
  ∀ (s : State) (room k : Nat), Running s → s.pending = true →
    let total := 8 + s.desc.width * s.desc.height
    let offer := min room (total - s.sendCursor)
    let u := { s with
      sendCursor := s.sendCursor + k
      stats := { s.stats with bytesForwarded := s.stats.bytesForwarded + BitVec.ofNat 32 k }
      history := s.history ++ [.chanWrite (streamBytes s s.sendCursor offer) k] }
    (0 < offer → k ≤ offer → s.sendCursor + k < total →
      exec (.pollWrite room k) s = .next u) ∧
    (0 < offer → k ≤ offer → s.sendCursor + k = total →
      exec (.pollWrite room k) s = exec .pollComplete u) ∧
    (offer = 0 → s.sendCursor ≠ total → exec (.pollWrite room k) s = .next s) ∧
    (s.sendCursor = total → exec (.pollWrite room k) s = exec .pollComplete s) ∧
    (0 < offer → offer < k → exec (.pollWrite room k) s = .refused .hostContract)

/-- R205: at the total, the slot is freed, the channel flushed, and the frame recorded as sent. -/
def Obligations.PollCompleteFreesTheSlotAndFlushes : Prop :=
  ∀ s : State, Running s → s.pending = true →
    s.sendCursor = 8 + s.desc.width * s.desc.height →
    exec .pollComplete s = .next { s with
      pending := false, sendCursor := 0, history := s.history ++ [.chanFlush, .frameSent] }

/-- R100: the logical stream of the pending frame is its header and then the pixels of the pending
buffer, in row-major order. -/
def Obligations.PacketIsHeaderThenPixels : Prop :=
  ∀ s : State, streamBytes s 0 (packetSize s) =
    s.hdr.toList ++ Memory.readBytes (buffer s s.active.other) 0 (s.desc.width * s.desc.height)

/-- S10 (§8 item 10), R206: a channel that accepts K bytes at the first POLL and the rest at the second
gets the whole packet in order in two POLLs, flushed once. -/
def Obligations.TwoPollsSendTheWholePacket : Prop :=
  ∀ (s : State) (k room₁ room₂ : Nat), Running s → s.pending = true → s.sendCursor = 0 →
    0 < k → k < packetSize s → k ≤ room₁ → packetSize s - k ≤ room₂ →
    ∃ u t, exec (.pollWrite room₁ k) s = .next u ∧ u.pending = true ∧ u.sendCursor = k ∧
      exec (.pollWrite room₂ (packetSize s - k)) u = .next t ∧ t.pending = false ∧
      t.sendCursor = 0 ∧ hostStream t = hostStream s ++ streamBytes s 0 (packetSize s) ∧
      t.stats.bytesForwarded = s.stats.bytesForwarded + BitVec.ofNat 32 (packetSize s) ∧
      (t.history.count .chanFlush = s.history.count .chanFlush + 1)

/-- R98, R99: read back low byte first, the header gives the frame identifier, W and H. -/
def Obligations.HeaderFieldsAreLittleEndian : Prop :=
  ∀ (c : Config) (v : Variant) (f : Half), c.wf = true →
    let d := c.descriptor v
    let h := headerBytes c d f
    h[0] = c.magicA ∧ h[1] = c.magicB ∧
    h[2].toNat + 256 * h[3].toNat = f.toNat ∧
    h[4].toNat + 256 * h[5].toNat = d.width ∧
    h[6].toNat + 256 * h[7].toNat = d.height

/-! ## The mode controller -/

/-- R223, R224, R225: the full reset, the same for the two commands and for the switch itself: everything
listed is reset, both buffers read 0, the record is told to the capture layer, and the statistics, the
frame identifier and every register the rule does not list stay. -/
def Obligations.ModeSwitchResetsWhatTheRuleLists : Prop :=
  ∀ (s : State) (v : Variant), Running s →
    ∃ m₀ m₁,
      (let t := { s with
        captureEnabled := true
        pstate := .scanningForSync
        frameLocked := false
        lineCount := 0
        bufPing := m₀
        bufPong := m₁
        placed := 0
        placedCount := 0
        active := .ping
        pending := false
        sendCursor := 0
        prodCursor := 0
        consCursor := 0
        produced := 0
        consumed := 0
        overrun := false
        variant := v
        history := s.history ++ [.modeSwitched v (s.cfg.descriptor v).bitRate] }
      exec (.modeSwitch v) s = .next t ∧
      (v = .narrow → ∀ k, exec (.modeNarrow k) s = .next t) ∧
      (v = .wide → ∀ k, exec (.modeWide k) s = .next t)) ∧
      (∀ a, Memory.read m₀ a = if a < s.cfg.bufferSize then 0 else Memory.read s.bufPing a) ∧
      (∀ a, Memory.read m₁ a = if a < s.cfg.bufferSize then 0 else Memory.read s.bufPong a)

/-- R226, R227: STATUS records the snapshot of the eight counters and writes a text, which is a free
value (notes/assumptions/3.md), to the channel; no block state changes. -/
def Obligations.StatusReportsTheCounters : Prop :=
  ∀ (s : State) (k : LetterCase), Running s →
    ∃ text, exec (.status k) s = .next { s with
      history := s.history ++ [.status s.stats, .chanText text], draws := s.draws + 1 }

/-- R228: the eight counters become 0, and nothing else changes. -/
def Obligations.ClearStatsClearsTheEightCounters : Prop :=
  ∀ (s : State) (k : LetterCase), Running s →
    exec (.clearStats k) s = .next { s with stats := {
      bytesForwarded := 0, framesSent := 0, framesDropped := 0, crcOk := 0
      crcErr := 0, gapBytes := 0, resync := 0, peakOccupancy := 0 } }

/-- R229: the acknowledgement, which is a free value (notes/assumptions/3.md), the flush, the handoff
record and the terminal flag, in that order, and nothing else. -/
def Obligations.FirmwareUpdateIsTerminal : Prop :=
  ∀ (s : State) (k : LetterCase), Running s →
    ∃ text, exec (.fwUpdate k) s = .next { s with
      terminal := true
      history := s.history ++ [.chanText text, .chanFlush, .firmwareUpdate]
      draws := s.draws + 1 }

/-- R230, R250: a byte that is no command changes nothing of the block and no counter; the history
records E6. -/
def Obligations.IgnoredCommandChangesNothing : Prop :=
  ∀ (s : State) (c : Byte), Running s →
    c &&& 0xDF ≠ 0x4E → c &&& 0xDF ≠ 0x4F → c &&& 0xDF ≠ 0x53 → c &&& 0xDF ≠ 0x52 →
    c &&& 0xDF ≠ 0x42 →
    exec (.ignore c) s = .next { s with history := s.history ++ [.commandIgnored] }

/-- R222, R221: CMD takes the oldest byte and runs the operation it decodes to; with an empty queue it
has no step. That this outcome is the refusal `notEnabled` is the model's choice
(notes/assumptions/6.md). -/
def Obligations.CmdTakesTheOldestByteAndRunsIt : Prop :=
  ∀ s : State, Running s →
    (s.cmdQueue = [] → exec .cmd s = .refused .notEnabled) ∧
    (∀ c rest, s.cmdQueue = c :: rest →
      exec .cmd s = exec (decodeCommand c).instr { s with cmdQueue := rest } ∧
      ∃ t, exec .cmd s = .next t)

/-- R55, R273: HOST appends a byte behind the bytes that wait, and changes nothing else. -/
def Obligations.HostByteJoinsTheQueue : Prop :=
  ∀ (s : State) (c : Byte), Running s →
    runMove (.hostByte c) s = .next { s with cmdQueue := s.cmdQueue ++ [c] }

/-- R14, R110: while the block runs, an operation waits, with no move, in exactly the states in which what
the opcode table and its rule select it by (`Selected`) does not hold. That such an outcome is the refusal
`notEnabled` is the model's choice (notes/assumptions/6.md), as is what the rows in the middle of a PARSE
or of a HANDLE_LINE are selected by when they run alone (notes/assumptions/10.md,
notes/assumptions/19.md). -/
def Obligations.UnselectedOperationsHaveNoMove : Prop :=
  ∀ (s : State) (i : Instr), Running s → (exec i s = .refused .notEnabled ↔ ¬ Selected s i)

/-! ## Steps and runs -/

/-- A step whose move is CMD runs the command that decodes from the bytes that wait, on the state with
the move and the byte taken. That the moves at hand stand in the state is the model's choice
(notes/assumptions/2.md). -/
def Obligations.StepRunsTheDecodedCommand : Prop :=
  ∀ (s : State) (c : Byte) (rest : List Byte) (i : Instr), s.booting = false → nextMove s = .cmd →
    s.cmdQueue = c :: rest → decode (c :: rest) = .ok (i, rest) →
    step s = exec i { takeMove s with cmdQueue := rest }

/-- A step with another move runs the operation the move selects, on the state with the move taken; a
POLL is the row that the slot and HOST's answer select (R202-R204). That the moves at hand stand in the
state is the model's choice (notes/assumptions/2.md). -/
def Obligations.StepRunsTheMoveAtHand : Prop :=
  ∀ s : State, s.booting = false →
    (∀ b, nextMove s = .produce b → step s = exec (.produce b) (takeMove s)) ∧
    (nextMove s = .consume → step s = exec .consume (takeMove s)) ∧
    (∀ a, nextMove s = .poll a →
      (s.pending = false → step s = exec .pollIdle (takeMove s)) ∧
      (s.pending = true → a.connected = false → step s = exec .pollDisconnect (takeMove s)) ∧
      (s.pending = true → a.connected = true →
        step s = exec (.pollWrite a.room a.accepted) (takeMove s))) ∧
    (∀ c, nextMove s = .hostByte c → Running s →
      step s = .next { takeMove s with cmdQueue := s.cmdQueue ++ [c] })

/-- MODEL'S CHOICE (notes/assumptions/7.md): a command byte placed by `withFetchWord` is what the next
step runs, on the state it was placed in. -/
def Obligations.FetchedCommandRunsNext : Prop :=
  ∀ (s : State) (w : Nat), w < 256 →
    ∃ i, decodeTableWord 8 w = some i ∧ encode i = some [BitVec.ofNat 8 w] ∧
      step (s.withFetchWord 8 w) = exec i { s with booting := false }

/-- R280, R281, R60: after a cold start under any configuration that has a run, whatever the ring and the
line buffer hold, the first step is MODE_SWITCH(INITIAL_VARIANT), and it leaves these values. -/
def Obligations.ColdStartBootsIntoTheInitialVariant : Prop :=
  ∀ (c : Config) (ring line : Memory), c.wf = true →
    ∃ t, step (State.coldStart c ring line) = .next t ∧ t.cfg = c ∧
      t.variant = c.initialVariant ∧ t.ring = ring ∧ t.prodCursor = 0 ∧ t.consCursor = 0 ∧
      t.captureEnabled = true ∧ t.produced = 0 ∧ t.consumed = 0 ∧ t.overrun = false ∧
      t.pstate = .scanningForSync ∧ t.frameLocked = false ∧ t.lineCount = 0 ∧
      t.rowAddr = 0 ∧ t.gapRemaining = 0 ∧
      (∀ a, Memory.read t.bufPing a = 0) ∧ (∀ a, Memory.read t.bufPong a = 0) ∧
      t.active = .ping ∧ t.pending = false ∧ t.placed = 0 ∧ t.placedCount = 0 ∧ t.prevRow = 0 ∧
      t.frameId = 0 ∧ (∀ i : Fin 8, t.hdr[i] = 0) ∧ t.sendCursor = 0 ∧ t.stats = Stats.zero ∧
      t.terminal = false ∧ t.cmdQueue = [] ∧
      t.history = [.modeSwitched c.initialVariant (c.descriptor c.initialVariant).bitRate]

/-- The sound-state invariant holds after a cold start under any configuration that has a run, for any
canonical content of the ring and the line buffer. -/
def Obligations.ColdStartIsSound : Prop :=
  ∀ (c : Config) (ring line : Memory), c.wf = true → ring.wf = true → line.wf = true →
    ring.within c.ringN = true → line.within c.maxRecord = true →
    Inv (State.coldStart c ring line)

/-- R59 and the ranges of 10_state.md: every step of every agent keeps the invariant, from every state
that has it. -/
def Obligations.EveryStepKeepsTheInvariant : Prop :=
  ∀ s t : State, Inv s → step s = .next t → Inv t

/-- R254, R14: no condition is fatal. From a state with the invariant no step faults, whoever moves. -/
def Obligations.NoSoundStateFaults : Prop :=
  ∀ (s : State) (f : Fault), Inv s → step s ≠ .fault f

/-- R9: WF2, WF3, WF4 and WF6, and that `RING_N` is 2 or more (WF1; that it is a power of two, and WF5,
hold by the form of the configuration). Under any other configuration no operation and no step goes on
(the name of the refusal is the model's, notes/assumptions/6.md). -/
def Obligations.IllFormedConfigurationHasNoRun : Prop :=
  ∀ s : State,
    (s.cfg.wf = true ↔
      2 ≤ s.cfg.ringN ∧ 1 ≤ s.cfg.batchMax ∧ 1 ≤ s.cfg.maxGap ∧
      (∀ v, let d := s.cfg.descriptor v
        1 ≤ d.width ∧ 1 ≤ d.height ∧ d.height ≤ d.totalLines ∧ d.totalLines ≤ 256 ∧
          d.width ≤ 65535 ∧ d.height ≤ 65535 ∧ d.recordSize = d.width + 4) ∧
      s.cfg.narrow.totalLines ≤ (s.cfg.narrow.row s.cfg.sync).toNat) ∧
    (∃ k, s.cfg.ringN = 2 ^ k) ∧
    (s.cfg.wf = false →
      (∀ i, exec i s = .refused .illFormedConfig) ∧ step s = .refused .illFormedConfig)

/-- R53, R294: once `terminal` is set no agent has a step (the name of the refusal is the model's,
notes/assumptions/6.md). -/
def Obligations.NoAgentStepsAfterTheHandoff : Prop :=
  ∀ s : State, s.cfg.wf = true → s.terminal = true →
    (∀ i, exec i s = .refused .handedOff) ∧ (∀ m, runMove m s = .refused .handedOff) ∧
    step s = .refused .handedOff

/-- R8, R30, R34, R129, R36, R232: no step changes the configuration; outside a mode switch a step leaves
the variant, moves the producer cursor only by a PRODUCE and by one, moves the consumer cursor only by a
CONSUME and by its batch, and does not clear the overrun ghost; a mode switch selects its variant and
resets both cursors and the ghost. -/
def Obligations.OnlyAModeSwitchResetsVariantAndCursor : Prop :=
  ∀ s t : State, step s = .next t → t.cfg = s.cfg ∧
    (modeSwitchNext s = none →
      t.variant = s.variant ∧ (s.overrun = true → t.overrun = true) ∧
      (t.prodCursor = s.prodCursor ∨
        ∃ b, nextMove s = .produce b ∧ t.prodCursor = (s.prodCursor + 1) % s.cfg.ringN) ∧
      (t.consCursor = s.consCursor ∨ nextMove s = .consume ∧
        t.consCursor = (s.consCursor + min (available s) s.cfg.batchMax) % s.cfg.ringN)) ∧
    (∀ v, modeSwitchNext s = some v →
      t.variant = v ∧ t.prodCursor = 0 ∧ t.consCursor = 0 ∧ t.overrun = false)

/-- R56: the history only grows, in order. -/
def Obligations.HistoryOnlyGrows : Prop :=
  ∀ s t : State, step s = .next t → ∃ records, t.history = s.history ++ records

/-- R221: in a fair run the oldest waiting command byte is taken. -/
def Obligations.FairRunTakesTheOldestCommand : Prop :=
  ∀ (σ : Nat → State) (μ : Nat → Move) (c : Byte) (rest : List Byte), IsRun σ μ → WeaklyFair σ μ →
    (σ 0).cmdQueue = c :: rest →
    ∃ n, μ n = .cmd ∧ ∃ waiting, (σ n).cmdQueue = c :: waiting

/-- MODEL'S CHOICE (notes/assumptions/4.md): the canonical form of a storage space (R70). Two that read the
same at every address are equal data. -/
def Obligations.CanonicalMemoriesWithEqualReadsAreEqual : Prop :=
  ∀ m m' : Memory, m.wf = true → m'.wf = true → (∀ a, Memory.read m a = Memory.read m' a) → m = m'
end

