-- ==== Sys2Proof/Laws/Memory.lean ====
section
/-! SUPPORT. What the memory operations do: a read after a write, the canonical form and the bounds
they keep, and the uniqueness of the canonical form. -/

namespace Sys2Proof.Machine

@[simp] theorem Memory.read_nil (a : Nat) : Memory.read [] a = 0 := rfl

theorem Memory.wfFrom_mono {lo lo' : Nat} (m : Memory) (h : lo' ≤ lo)
    (hm : Memory.wfFrom lo m = true) : Memory.wfFrom lo' m = true := by
  cases m with
  | nil => rfl
  | cons cell rest =>
    obtain ⟨k, v⟩ := cell
    simp only [Memory.wfFrom, Bool.and_eq_true, decide_eq_true_eq] at hm ⊢
    exact ⟨⟨by omega, hm.1.2⟩, hm.2⟩

theorem Memory.read_below {lo a : Nat} (m : Memory) (hm : Memory.wfFrom lo m = true) (h : a < lo) :
    Memory.read m a = 0 := by
  induction m generalizing lo with
  | nil => rfl
  | cons cell rest ih =>
    obtain ⟨k, v⟩ := cell
    simp only [Memory.wfFrom, Bool.and_eq_true, decide_eq_true_eq] at hm
    have hne : k ≠ a := by omega
    simp only [Memory.read, hne, if_false]
    exact ih hm.2 (by omega)

/-- Writing keeps the canonical form from any lower bound of the old addresses and the new one. -/
theorem Memory.wfFrom_write {lo : Nat} (m : Memory) (a : Nat) (b : Byte)
    (hm : Memory.wfFrom lo m = true) (h : lo ≤ a) :
    Memory.wfFrom lo (Memory.write m a b) = true := by
  induction m generalizing lo with
  | nil =>
    simp only [Memory.write]
    split <;> simp_all [Memory.wfFrom]
  | cons cell rest ih =>
    obtain ⟨k, v⟩ := cell
    simp only [Memory.wfFrom, Bool.and_eq_true, decide_eq_true_eq] at hm
    obtain ⟨⟨h1, h2⟩, h3⟩ := hm
    simp only [Memory.write]
    split
    · split
      · simp [Memory.wfFrom, h1, h2, h3]
      · rename_i h4 h5
        have h6 : a + 1 ≤ k := by omega
        simp [Memory.wfFrom, h, h5, h2, h3, h6]
    · split
      · rename_i h4 h5
        subst h5
        split
        · exact Memory.wfFrom_mono rest (by omega) h3
        · rename_i h6
          simp [Memory.wfFrom, h1, h6, h3]
      · rename_i h4 h5
        simp only [Memory.wfFrom, Bool.and_eq_true, decide_eq_true_eq]
        exact ⟨⟨h1, h2⟩, ih h3 (by omega)⟩

/-- Every write keeps the canonical form. -/
theorem Memory.wf_write (m : Memory) (a : Nat) (b : Byte) (hm : m.wf = true) :
    (Memory.write m a b).wf = true :=
  Memory.wfFrom_write m a b hm (Nat.zero_le a)

theorem Memory.read_writeFrom {lo : Nat} (m : Memory) (a : Nat) (b : Byte) (x : Nat)
    (hm : Memory.wfFrom lo m = true) :
    Memory.read (Memory.write m a b) x = if x = a then b else Memory.read m x := by
  induction m generalizing lo with
  | nil =>
    simp only [Memory.write]
    by_cases hb : b = Memory.unlisted
    · rw [if_pos hb]
      split
      · rw [hb]; rfl
      · rfl
    · rw [if_neg hb]
      simp only [Memory.read]
      by_cases hx : x = a
      · simp [hx]
      · simp [hx, Ne.symm hx]
  | cons cell rest ih =>
    obtain ⟨k, v⟩ := cell
    simp only [Memory.wfFrom, Bool.and_eq_true, decide_eq_true_eq] at hm
    obtain ⟨⟨h1, h2⟩, h3⟩ := hm
    simp only [Memory.write]
    by_cases h4 : a < k
    · rw [if_pos h4]
      by_cases hb : b = Memory.unlisted
      · rw [if_pos hb]
        by_cases hx : x = a
        · subst hx
          have h5 : k ≠ x := by omega
          rw [if_pos rfl, hb]
          simp only [Memory.read, h5, if_false]
          exact Memory.read_below rest h3 (by omega)
        · simp [hx]
      · rw [if_neg hb]
        by_cases hx : x = a
        · simp [Memory.read, hx]
        · simp [Memory.read, hx, Ne.symm hx]
    · rw [if_neg h4]
      by_cases h5 : a = k
      · rw [if_pos h5]
        subst h5
        by_cases hb : b = Memory.unlisted
        · rw [if_pos hb]
          by_cases hx : x = a
          · subst hx
            rw [if_pos rfl, hb]
            exact Memory.read_below rest h3 (by omega)
          · simp [Memory.read, hx, Ne.symm hx]
        · rw [if_neg hb]
          by_cases hx : x = a
          · simp [Memory.read, hx]
          · simp [Memory.read, hx, Ne.symm hx]
      · rw [if_neg h5]
        simp only [Memory.read]
        rw [ih h3]
        by_cases hx : k = x
        · have : x ≠ a := by omega
          simp [hx, this]
        · simp [hx]

/-- A read after a write: the byte written at that address, and every other address as before. -/
theorem Memory.read_write (m : Memory) (a : Nat) (b : Byte) (x : Nat) (hm : m.wf = true) :
    Memory.read (Memory.write m a b) x = if x = a then b else Memory.read m x :=
  Memory.read_writeFrom m a b x hm

/-- Writing a run of bytes keeps the canonical form. -/
theorem Memory.wf_writeBytes (bs : List Byte) (m : Memory) (a : Nat) (hm : m.wf = true) :
    (Memory.writeBytes m a bs).wf = true := by
  induction bs generalizing m a with
  | nil => exact hm
  | cons b bs ih => exact ih _ _ (Memory.wf_write m a b hm)

/-- A read after a run of bytes is written: the byte of the run, or as before outside it. -/
theorem Memory.read_writeBytes (bs : List Byte) (m : Memory) (a x : Nat) (hm : m.wf = true) :
    Memory.read (Memory.writeBytes m a bs) x =
      if a ≤ x ∧ x < a + bs.length then bs.getD (x - a) 0 else Memory.read m x := by
  induction bs generalizing m a with
  | nil =>
    have : ¬(a ≤ x ∧ x < a + ([] : List Byte).length) := by simp
    rw [if_neg this]; rfl
  | cons b bs ih =>
    simp only [Memory.writeBytes]
    rw [ih _ _ (Memory.wf_write m a b hm), Memory.read_write m a b x hm]
    by_cases hx : x = a
    · subst hx
      have h1 : ¬(x + 1 ≤ x ∧ x < x + 1 + bs.length) := by omega
      have h2 : x ≤ x ∧ x < x + (b :: bs).length := ⟨le_refl _, by simp⟩
      rw [if_neg h1, if_pos rfl, if_pos h2]
      simp
    · by_cases h1 : a + 1 ≤ x ∧ x < a + 1 + bs.length
      · have h2 : a ≤ x ∧ x < a + (b :: bs).length := ⟨by omega, by simp; omega⟩
        rw [if_pos h1, if_pos h2]
        obtain ⟨d, rfl⟩ : ∃ d, x = a + 1 + d := ⟨x - (a + 1), by omega⟩
        have e1 : a + 1 + d - (a + 1) = d := by omega
        have e2 : a + 1 + d - a = d + 1 := by omega
        rw [e1, e2, List.getD_cons_succ]
      · have h2 : ¬(a ≤ x ∧ x < a + (b :: bs).length) := by simp; omega
        rw [if_neg h1, if_neg h2, if_neg hx]

theorem Memory.wfFrom_clearBelow {lo : Nat} (n : Nat) (m : Memory)
    (hm : Memory.wfFrom lo m = true) : Memory.wfFrom lo (Memory.clearBelow n m) = true := by
  induction m generalizing lo with
  | nil => rfl
  | cons cell rest ih =>
    obtain ⟨k, v⟩ := cell
    simp only [Memory.wfFrom, Bool.and_eq_true, decide_eq_true_eq] at hm
    obtain ⟨⟨h1, h2⟩, h3⟩ := hm
    have hr := ih h3
    by_cases hk : n ≤ k
    · simp only [Memory.clearBelow, List.filter, hk, decide_true, Memory.wfFrom, Bool.and_eq_true,
        decide_eq_true_eq]
      exact ⟨⟨h1, h2⟩, hr⟩
    · simp only [Memory.clearBelow, List.filter, hk, decide_false]
      exact Memory.wfFrom_mono _ (by omega) hr

/-- Clearing keeps the canonical form. -/
theorem Memory.wf_clearBelow (n : Nat) (m : Memory) (hm : m.wf = true) :
    (Memory.clearBelow n m).wf = true :=
  Memory.wfFrom_clearBelow n m hm

/-- Clearing makes every address below `n` read 0 and leaves every other address. -/
theorem Memory.read_clearBelow (n : Nat) (m : Memory) (x : Nat) :
    Memory.read (Memory.clearBelow n m) x = if x < n then 0 else Memory.read m x := by
  induction m with
  | nil => simp [Memory.clearBelow]
  | cons cell rest ih =>
    obtain ⟨k, v⟩ := cell
    have ih' : Memory.read (List.filter (fun cell => decide (n ≤ cell.1)) rest) x =
        if x < n then 0 else Memory.read rest x := ih
    by_cases hk : n ≤ k
    · simp only [Memory.clearBelow, List.filter, hk, decide_true, Memory.read, ih']
      by_cases hx : k = x
      · have : ¬x < n := by omega
        simp [hx, this]
      · simp [hx]
    · simp only [Memory.clearBelow, List.filter, hk, decide_false, Memory.read, ih']
      by_cases hx : x < n
      · simp [hx]
      · have : k ≠ x := by omega
        simp [hx, this]

/-- A clear of the whole space lists nothing. -/
theorem Memory.clearBelow_eq_nil {n : Nat} {m : Memory} (hm : Memory.within n m = true) :
    Memory.clearBelow n m = [] := by
  simp only [Memory.within, List.all_eq_true, decide_eq_true_eq] at hm
  simp only [Memory.clearBelow, List.filter_eq_nil_iff, decide_eq_true_eq]
  intro cell hc
  have := hm cell hc
  omega

theorem Memory.within_write {n : Nat} (m : Memory) (a : Nat) (b : Byte)
    (hm : Memory.within n m = true) (h : a < n) : Memory.within n (Memory.write m a b) = true := by
  induction m with
  | nil =>
    simp only [Memory.write]
    split <;> simp [Memory.within, h]
  | cons cell rest ih =>
    obtain ⟨k, v⟩ := cell
    simp only [Memory.within, List.all_cons, Bool.and_eq_true, decide_eq_true_eq] at hm ih ⊢
    obtain ⟨h1, h2⟩ := hm
    simp only [Memory.write]
    split
    · split <;> simp only [List.all_cons, Bool.and_eq_true, decide_eq_true_eq] <;> tauto
    · split
      · split
        · exact h2
        · simp only [List.all_cons, Bool.and_eq_true, decide_eq_true_eq]; tauto
      · simp only [List.all_cons, Bool.and_eq_true, decide_eq_true_eq]
        exact ⟨h1, ih h2⟩

theorem Memory.within_writeBytes {n : Nat} (bs : List Byte) (m : Memory) (a : Nat)
    (hm : Memory.within n m = true) (h : a + bs.length ≤ n) :
    Memory.within n (Memory.writeBytes m a bs) = true := by
  induction bs generalizing m a with
  | nil => exact hm
  | cons b bs ih =>
    simp only [List.length_cons] at h
    exact ih _ _ (Memory.within_write m a b hm (by omega)) (by omega)

theorem Memory.within_clearBelow {n : Nat} (k : Nat) (m : Memory)
    (hm : Memory.within n m = true) : Memory.within n (Memory.clearBelow k m) = true := by
  simp only [Memory.within, List.all_eq_true, decide_eq_true_eq] at hm ⊢
  intro cell hc
  exact hm cell (List.mem_of_mem_filter hc)

@[simp] theorem Memory.length_readBytes (m : Memory) (a n : Nat) :
    (Memory.readBytes m a n).length = n := by
  simp [Memory.readBytes]

end Sys2Proof.Machine
end

