-- ==== Sys2Proof/Laws/State.lean ====
section
/-! SUPPORT. One lemma for each field of the state under each shared update: what the update writes,
and that it leaves every other field. -/

namespace Sys2Proof.Machine

section emit

variable (e : Event) (s : State)

@[simp] theorem emit_cfg : (emit e s).cfg = s.cfg := rfl
@[simp] theorem emit_variant : (emit e s).variant = s.variant := rfl
@[simp] theorem emit_ring : (emit e s).ring = s.ring := rfl
@[simp] theorem emit_prodCursor : (emit e s).prodCursor = s.prodCursor := rfl
@[simp] theorem emit_consCursor : (emit e s).consCursor = s.consCursor := rfl
@[simp] theorem emit_captureEnabled : (emit e s).captureEnabled = s.captureEnabled := rfl
@[simp] theorem emit_produced : (emit e s).produced = s.produced := rfl
@[simp] theorem emit_consumed : (emit e s).consumed = s.consumed := rfl
@[simp] theorem emit_overrun : (emit e s).overrun = s.overrun := rfl
@[simp] theorem emit_pstate : (emit e s).pstate = s.pstate := rfl
@[simp] theorem emit_frameLocked : (emit e s).frameLocked = s.frameLocked := rfl
@[simp] theorem emit_lineBuf : (emit e s).lineBuf = s.lineBuf := rfl
@[simp] theorem emit_lineCount : (emit e s).lineCount = s.lineCount := rfl
@[simp] theorem emit_rowAddr : (emit e s).rowAddr = s.rowAddr := rfl
@[simp] theorem emit_gapRemaining : (emit e s).gapRemaining = s.gapRemaining := rfl
@[simp] theorem emit_bufPing : (emit e s).bufPing = s.bufPing := rfl
@[simp] theorem emit_bufPong : (emit e s).bufPong = s.bufPong := rfl
@[simp] theorem emit_active : (emit e s).active = s.active := rfl
@[simp] theorem emit_pending : (emit e s).pending = s.pending := rfl
@[simp] theorem emit_placed : (emit e s).placed = s.placed := rfl
@[simp] theorem emit_placedCount : (emit e s).placedCount = s.placedCount := rfl
@[simp] theorem emit_prevRow : (emit e s).prevRow = s.prevRow := rfl
@[simp] theorem emit_frameId : (emit e s).frameId = s.frameId := rfl
@[simp] theorem emit_hdr : (emit e s).hdr = s.hdr := rfl
@[simp] theorem emit_sendCursor : (emit e s).sendCursor = s.sendCursor := rfl
@[simp] theorem emit_stats : (emit e s).stats = s.stats := rfl
@[simp] theorem emit_terminal : (emit e s).terminal = s.terminal := rfl
@[simp] theorem emit_cmdQueue : (emit e s).cmdQueue = s.cmdQueue := rfl
@[simp] theorem emit_history : (emit e s).history = s.history ++ [e] := rfl
@[simp] theorem emit_booting : (emit e s).booting = s.booting := rfl
@[simp] theorem emit_agenda : (emit e s).agenda = s.agenda := rfl
@[simp] theorem emit_draws : (emit e s).draws = s.draws := rfl
@[simp] theorem emit_desc : (emit e s).desc = s.desc := rfl

end emit

section ringWrite

variable (i : Nat) (b : Byte) (s : State)

@[simp] theorem ringWrite_cfg : (ringWrite i b s).cfg = s.cfg := rfl
@[simp] theorem ringWrite_variant : (ringWrite i b s).variant = s.variant := rfl
@[simp] theorem ringWrite_ring : (ringWrite i b s).ring = Memory.write s.ring (i % s.cfg.ringN) b := rfl
@[simp] theorem ringWrite_prodCursor : (ringWrite i b s).prodCursor = s.prodCursor := rfl
@[simp] theorem ringWrite_consCursor : (ringWrite i b s).consCursor = s.consCursor := rfl
@[simp] theorem ringWrite_captureEnabled : (ringWrite i b s).captureEnabled = s.captureEnabled := rfl
@[simp] theorem ringWrite_produced : (ringWrite i b s).produced = s.produced := rfl
@[simp] theorem ringWrite_consumed : (ringWrite i b s).consumed = s.consumed := rfl
@[simp] theorem ringWrite_overrun : (ringWrite i b s).overrun = s.overrun := rfl
@[simp] theorem ringWrite_pstate : (ringWrite i b s).pstate = s.pstate := rfl
@[simp] theorem ringWrite_frameLocked : (ringWrite i b s).frameLocked = s.frameLocked := rfl
@[simp] theorem ringWrite_lineBuf : (ringWrite i b s).lineBuf = s.lineBuf := rfl
@[simp] theorem ringWrite_lineCount : (ringWrite i b s).lineCount = s.lineCount := rfl
@[simp] theorem ringWrite_rowAddr : (ringWrite i b s).rowAddr = s.rowAddr := rfl
@[simp] theorem ringWrite_gapRemaining : (ringWrite i b s).gapRemaining = s.gapRemaining := rfl
@[simp] theorem ringWrite_bufPing : (ringWrite i b s).bufPing = s.bufPing := rfl
@[simp] theorem ringWrite_bufPong : (ringWrite i b s).bufPong = s.bufPong := rfl
@[simp] theorem ringWrite_active : (ringWrite i b s).active = s.active := rfl
@[simp] theorem ringWrite_pending : (ringWrite i b s).pending = s.pending := rfl
@[simp] theorem ringWrite_placed : (ringWrite i b s).placed = s.placed := rfl
@[simp] theorem ringWrite_placedCount : (ringWrite i b s).placedCount = s.placedCount := rfl
@[simp] theorem ringWrite_prevRow : (ringWrite i b s).prevRow = s.prevRow := rfl
@[simp] theorem ringWrite_frameId : (ringWrite i b s).frameId = s.frameId := rfl
@[simp] theorem ringWrite_hdr : (ringWrite i b s).hdr = s.hdr := rfl
@[simp] theorem ringWrite_sendCursor : (ringWrite i b s).sendCursor = s.sendCursor := rfl
@[simp] theorem ringWrite_stats : (ringWrite i b s).stats = s.stats := rfl
@[simp] theorem ringWrite_terminal : (ringWrite i b s).terminal = s.terminal := rfl
@[simp] theorem ringWrite_cmdQueue : (ringWrite i b s).cmdQueue = s.cmdQueue := rfl
@[simp] theorem ringWrite_history : (ringWrite i b s).history = s.history := rfl
@[simp] theorem ringWrite_booting : (ringWrite i b s).booting = s.booting := rfl
@[simp] theorem ringWrite_agenda : (ringWrite i b s).agenda = s.agenda := rfl
@[simp] theorem ringWrite_draws : (ringWrite i b s).draws = s.draws := rfl
@[simp] theorem ringWrite_desc : (ringWrite i b s).desc = s.desc := rfl

end ringWrite

section lineWrite

variable (j : Nat) (b : Byte) (s : State)

@[simp] theorem lineWrite_cfg : (lineWrite j b s).cfg = s.cfg := rfl
@[simp] theorem lineWrite_variant : (lineWrite j b s).variant = s.variant := rfl
@[simp] theorem lineWrite_ring : (lineWrite j b s).ring = s.ring := rfl
@[simp] theorem lineWrite_prodCursor : (lineWrite j b s).prodCursor = s.prodCursor := rfl
@[simp] theorem lineWrite_consCursor : (lineWrite j b s).consCursor = s.consCursor := rfl
@[simp] theorem lineWrite_captureEnabled : (lineWrite j b s).captureEnabled = s.captureEnabled := rfl
@[simp] theorem lineWrite_produced : (lineWrite j b s).produced = s.produced := rfl
@[simp] theorem lineWrite_consumed : (lineWrite j b s).consumed = s.consumed := rfl
@[simp] theorem lineWrite_overrun : (lineWrite j b s).overrun = s.overrun := rfl
@[simp] theorem lineWrite_pstate : (lineWrite j b s).pstate = s.pstate := rfl
@[simp] theorem lineWrite_frameLocked : (lineWrite j b s).frameLocked = s.frameLocked := rfl
@[simp] theorem lineWrite_lineBuf : (lineWrite j b s).lineBuf = Memory.write s.lineBuf j b := rfl
@[simp] theorem lineWrite_lineCount : (lineWrite j b s).lineCount = s.lineCount := rfl
@[simp] theorem lineWrite_rowAddr : (lineWrite j b s).rowAddr = s.rowAddr := rfl
@[simp] theorem lineWrite_gapRemaining : (lineWrite j b s).gapRemaining = s.gapRemaining := rfl
@[simp] theorem lineWrite_bufPing : (lineWrite j b s).bufPing = s.bufPing := rfl
@[simp] theorem lineWrite_bufPong : (lineWrite j b s).bufPong = s.bufPong := rfl
@[simp] theorem lineWrite_active : (lineWrite j b s).active = s.active := rfl
@[simp] theorem lineWrite_pending : (lineWrite j b s).pending = s.pending := rfl
@[simp] theorem lineWrite_placed : (lineWrite j b s).placed = s.placed := rfl
@[simp] theorem lineWrite_placedCount : (lineWrite j b s).placedCount = s.placedCount := rfl
@[simp] theorem lineWrite_prevRow : (lineWrite j b s).prevRow = s.prevRow := rfl
@[simp] theorem lineWrite_frameId : (lineWrite j b s).frameId = s.frameId := rfl
@[simp] theorem lineWrite_hdr : (lineWrite j b s).hdr = s.hdr := rfl
@[simp] theorem lineWrite_sendCursor : (lineWrite j b s).sendCursor = s.sendCursor := rfl
@[simp] theorem lineWrite_stats : (lineWrite j b s).stats = s.stats := rfl
@[simp] theorem lineWrite_terminal : (lineWrite j b s).terminal = s.terminal := rfl
@[simp] theorem lineWrite_cmdQueue : (lineWrite j b s).cmdQueue = s.cmdQueue := rfl
@[simp] theorem lineWrite_history : (lineWrite j b s).history = s.history := rfl
@[simp] theorem lineWrite_booting : (lineWrite j b s).booting = s.booting := rfl
@[simp] theorem lineWrite_agenda : (lineWrite j b s).agenda = s.agenda := rfl
@[simp] theorem lineWrite_draws : (lineWrite j b s).draws = s.draws := rfl
@[simp] theorem lineWrite_desc : (lineWrite j b s).desc = s.desc := rfl

end lineWrite

section setBuffer

variable (k : BufferId) (m : Memory) (s : State)

@[simp] theorem setBuffer_cfg : (setBuffer k m s).cfg = s.cfg := by cases k <;> rfl
@[simp] theorem setBuffer_variant : (setBuffer k m s).variant = s.variant := by cases k <;> rfl
@[simp] theorem setBuffer_ring : (setBuffer k m s).ring = s.ring := by cases k <;> rfl
@[simp] theorem setBuffer_prodCursor : (setBuffer k m s).prodCursor = s.prodCursor := by cases k <;> rfl
@[simp] theorem setBuffer_consCursor : (setBuffer k m s).consCursor = s.consCursor := by cases k <;> rfl
@[simp] theorem setBuffer_captureEnabled : (setBuffer k m s).captureEnabled = s.captureEnabled := by cases k <;> rfl
@[simp] theorem setBuffer_produced : (setBuffer k m s).produced = s.produced := by cases k <;> rfl
@[simp] theorem setBuffer_consumed : (setBuffer k m s).consumed = s.consumed := by cases k <;> rfl
@[simp] theorem setBuffer_overrun : (setBuffer k m s).overrun = s.overrun := by cases k <;> rfl
@[simp] theorem setBuffer_pstate : (setBuffer k m s).pstate = s.pstate := by cases k <;> rfl
@[simp] theorem setBuffer_frameLocked : (setBuffer k m s).frameLocked = s.frameLocked := by cases k <;> rfl
@[simp] theorem setBuffer_lineBuf : (setBuffer k m s).lineBuf = s.lineBuf := by cases k <;> rfl
@[simp] theorem setBuffer_lineCount : (setBuffer k m s).lineCount = s.lineCount := by cases k <;> rfl
@[simp] theorem setBuffer_rowAddr : (setBuffer k m s).rowAddr = s.rowAddr := by cases k <;> rfl
@[simp] theorem setBuffer_gapRemaining : (setBuffer k m s).gapRemaining = s.gapRemaining := by cases k <;> rfl
@[simp] theorem setBuffer_active : (setBuffer k m s).active = s.active := by cases k <;> rfl
@[simp] theorem setBuffer_pending : (setBuffer k m s).pending = s.pending := by cases k <;> rfl
@[simp] theorem setBuffer_placed : (setBuffer k m s).placed = s.placed := by cases k <;> rfl
@[simp] theorem setBuffer_placedCount : (setBuffer k m s).placedCount = s.placedCount := by cases k <;> rfl
@[simp] theorem setBuffer_prevRow : (setBuffer k m s).prevRow = s.prevRow := by cases k <;> rfl
@[simp] theorem setBuffer_frameId : (setBuffer k m s).frameId = s.frameId := by cases k <;> rfl
@[simp] theorem setBuffer_hdr : (setBuffer k m s).hdr = s.hdr := by cases k <;> rfl
@[simp] theorem setBuffer_sendCursor : (setBuffer k m s).sendCursor = s.sendCursor := by cases k <;> rfl
@[simp] theorem setBuffer_stats : (setBuffer k m s).stats = s.stats := by cases k <;> rfl
@[simp] theorem setBuffer_terminal : (setBuffer k m s).terminal = s.terminal := by cases k <;> rfl
@[simp] theorem setBuffer_cmdQueue : (setBuffer k m s).cmdQueue = s.cmdQueue := by cases k <;> rfl
@[simp] theorem setBuffer_history : (setBuffer k m s).history = s.history := by cases k <;> rfl
@[simp] theorem setBuffer_booting : (setBuffer k m s).booting = s.booting := by cases k <;> rfl
@[simp] theorem setBuffer_agenda : (setBuffer k m s).agenda = s.agenda := by cases k <;> rfl
@[simp] theorem setBuffer_draws : (setBuffer k m s).draws = s.draws := by cases k <;> rfl
@[simp] theorem setBuffer_desc : (setBuffer k m s).desc = s.desc := by cases k <;> rfl

end setBuffer

section activate

variable (k : BufferId) (s : State)

@[simp] theorem activate_cfg : (activate k s).cfg = s.cfg := by cases k <;> rfl
@[simp] theorem activate_variant : (activate k s).variant = s.variant := by cases k <;> rfl
@[simp] theorem activate_ring : (activate k s).ring = s.ring := by cases k <;> rfl
@[simp] theorem activate_prodCursor : (activate k s).prodCursor = s.prodCursor := by cases k <;> rfl
@[simp] theorem activate_consCursor : (activate k s).consCursor = s.consCursor := by cases k <;> rfl
@[simp] theorem activate_captureEnabled : (activate k s).captureEnabled = s.captureEnabled := by cases k <;> rfl
@[simp] theorem activate_produced : (activate k s).produced = s.produced := by cases k <;> rfl
@[simp] theorem activate_consumed : (activate k s).consumed = s.consumed := by cases k <;> rfl
@[simp] theorem activate_overrun : (activate k s).overrun = s.overrun := by cases k <;> rfl
@[simp] theorem activate_pstate : (activate k s).pstate = s.pstate := by cases k <;> rfl
@[simp] theorem activate_frameLocked : (activate k s).frameLocked = s.frameLocked := by cases k <;> rfl
@[simp] theorem activate_lineBuf : (activate k s).lineBuf = s.lineBuf := by cases k <;> rfl
@[simp] theorem activate_lineCount : (activate k s).lineCount = s.lineCount := by cases k <;> rfl
@[simp] theorem activate_rowAddr : (activate k s).rowAddr = s.rowAddr := by cases k <;> rfl
@[simp] theorem activate_gapRemaining : (activate k s).gapRemaining = s.gapRemaining := by cases k <;> rfl
@[simp] theorem activate_active : (activate k s).active = s.active := by cases k <;> rfl
@[simp] theorem activate_pending : (activate k s).pending = s.pending := by cases k <;> rfl
@[simp] theorem activate_placed : (activate k s).placed = 0 := by cases k <;> rfl
@[simp] theorem activate_placedCount : (activate k s).placedCount = 0 := by cases k <;> rfl
@[simp] theorem activate_prevRow : (activate k s).prevRow = s.prevRow := by cases k <;> rfl
@[simp] theorem activate_frameId : (activate k s).frameId = s.frameId := by cases k <;> rfl
@[simp] theorem activate_hdr : (activate k s).hdr = s.hdr := by cases k <;> rfl
@[simp] theorem activate_sendCursor : (activate k s).sendCursor = s.sendCursor := by cases k <;> rfl
@[simp] theorem activate_stats : (activate k s).stats = s.stats := by cases k <;> rfl
@[simp] theorem activate_terminal : (activate k s).terminal = s.terminal := by cases k <;> rfl
@[simp] theorem activate_cmdQueue : (activate k s).cmdQueue = s.cmdQueue := by cases k <;> rfl
@[simp] theorem activate_history : (activate k s).history = s.history := by cases k <;> rfl
@[simp] theorem activate_booting : (activate k s).booting = s.booting := by cases k <;> rfl
@[simp] theorem activate_agenda : (activate k s).agenda = s.agenda := by cases k <;> rfl
@[simp] theorem activate_draws : (activate k s).draws = s.draws := by cases k <;> rfl
@[simp] theorem activate_desc : (activate k s).desc = s.desc := by cases k <;> rfl

end activate

section stampHeader

variable (s : State)

@[simp] theorem stampHeader_cfg : (stampHeader s).cfg = s.cfg := rfl
@[simp] theorem stampHeader_variant : (stampHeader s).variant = s.variant := rfl
@[simp] theorem stampHeader_ring : (stampHeader s).ring = s.ring := rfl
@[simp] theorem stampHeader_prodCursor : (stampHeader s).prodCursor = s.prodCursor := rfl
@[simp] theorem stampHeader_consCursor : (stampHeader s).consCursor = s.consCursor := rfl
@[simp] theorem stampHeader_captureEnabled : (stampHeader s).captureEnabled = s.captureEnabled := rfl
@[simp] theorem stampHeader_produced : (stampHeader s).produced = s.produced := rfl
@[simp] theorem stampHeader_consumed : (stampHeader s).consumed = s.consumed := rfl
@[simp] theorem stampHeader_overrun : (stampHeader s).overrun = s.overrun := rfl
@[simp] theorem stampHeader_pstate : (stampHeader s).pstate = s.pstate := rfl
@[simp] theorem stampHeader_frameLocked : (stampHeader s).frameLocked = s.frameLocked := rfl
@[simp] theorem stampHeader_lineBuf : (stampHeader s).lineBuf = s.lineBuf := rfl
@[simp] theorem stampHeader_lineCount : (stampHeader s).lineCount = s.lineCount := rfl
@[simp] theorem stampHeader_rowAddr : (stampHeader s).rowAddr = s.rowAddr := rfl
@[simp] theorem stampHeader_gapRemaining : (stampHeader s).gapRemaining = s.gapRemaining := rfl
@[simp] theorem stampHeader_bufPing : (stampHeader s).bufPing = s.bufPing := rfl
@[simp] theorem stampHeader_bufPong : (stampHeader s).bufPong = s.bufPong := rfl
@[simp] theorem stampHeader_active : (stampHeader s).active = s.active := rfl
@[simp] theorem stampHeader_pending : (stampHeader s).pending = s.pending := rfl
@[simp] theorem stampHeader_placed : (stampHeader s).placed = s.placed := rfl
@[simp] theorem stampHeader_placedCount : (stampHeader s).placedCount = s.placedCount := rfl
@[simp] theorem stampHeader_prevRow : (stampHeader s).prevRow = s.prevRow := rfl
@[simp] theorem stampHeader_frameId : (stampHeader s).frameId = s.frameId := rfl
@[simp] theorem stampHeader_hdr : (stampHeader s).hdr = headerBytes s.cfg s.desc s.frameId := rfl
@[simp] theorem stampHeader_sendCursor : (stampHeader s).sendCursor = s.sendCursor := rfl
@[simp] theorem stampHeader_stats : (stampHeader s).stats = s.stats := rfl
@[simp] theorem stampHeader_terminal : (stampHeader s).terminal = s.terminal := rfl
@[simp] theorem stampHeader_cmdQueue : (stampHeader s).cmdQueue = s.cmdQueue := rfl
@[simp] theorem stampHeader_history : (stampHeader s).history = s.history := rfl
@[simp] theorem stampHeader_booting : (stampHeader s).booting = s.booting := rfl
@[simp] theorem stampHeader_agenda : (stampHeader s).agenda = s.agenda := rfl
@[simp] theorem stampHeader_draws : (stampHeader s).draws = s.draws := rfl
@[simp] theorem stampHeader_desc : (stampHeader s).desc = s.desc := rfl

end stampHeader

section openRecord

variable (b : Byte) (s : State)

@[simp] theorem openRecord_cfg : (openRecord b s).cfg = s.cfg := rfl
@[simp] theorem openRecord_variant : (openRecord b s).variant = s.variant := rfl
@[simp] theorem openRecord_ring : (openRecord b s).ring = s.ring := rfl
@[simp] theorem openRecord_prodCursor : (openRecord b s).prodCursor = s.prodCursor := rfl
@[simp] theorem openRecord_consCursor : (openRecord b s).consCursor = s.consCursor := rfl
@[simp] theorem openRecord_captureEnabled : (openRecord b s).captureEnabled = s.captureEnabled := rfl
@[simp] theorem openRecord_produced : (openRecord b s).produced = s.produced := rfl
@[simp] theorem openRecord_consumed : (openRecord b s).consumed = s.consumed := rfl
@[simp] theorem openRecord_overrun : (openRecord b s).overrun = s.overrun := rfl
@[simp] theorem openRecord_pstate : (openRecord b s).pstate = .readingLine := rfl
@[simp] theorem openRecord_frameLocked : (openRecord b s).frameLocked = s.frameLocked := rfl
@[simp] theorem openRecord_lineBuf : (openRecord b s).lineBuf = Memory.write s.lineBuf 0 b := rfl
@[simp] theorem openRecord_lineCount : (openRecord b s).lineCount = 1 := rfl
@[simp] theorem openRecord_rowAddr : (openRecord b s).rowAddr = s.rowAddr := rfl
@[simp] theorem openRecord_gapRemaining : (openRecord b s).gapRemaining = s.gapRemaining := rfl
@[simp] theorem openRecord_bufPing : (openRecord b s).bufPing = s.bufPing := rfl
@[simp] theorem openRecord_bufPong : (openRecord b s).bufPong = s.bufPong := rfl
@[simp] theorem openRecord_active : (openRecord b s).active = s.active := rfl
@[simp] theorem openRecord_pending : (openRecord b s).pending = s.pending := rfl
@[simp] theorem openRecord_placed : (openRecord b s).placed = s.placed := rfl
@[simp] theorem openRecord_placedCount : (openRecord b s).placedCount = s.placedCount := rfl
@[simp] theorem openRecord_prevRow : (openRecord b s).prevRow = s.prevRow := rfl
@[simp] theorem openRecord_frameId : (openRecord b s).frameId = s.frameId := rfl
@[simp] theorem openRecord_hdr : (openRecord b s).hdr = s.hdr := rfl
@[simp] theorem openRecord_sendCursor : (openRecord b s).sendCursor = s.sendCursor := rfl
@[simp] theorem openRecord_stats : (openRecord b s).stats = s.stats := rfl
@[simp] theorem openRecord_terminal : (openRecord b s).terminal = s.terminal := rfl
@[simp] theorem openRecord_cmdQueue : (openRecord b s).cmdQueue = s.cmdQueue := rfl
@[simp] theorem openRecord_history : (openRecord b s).history = s.history := rfl
@[simp] theorem openRecord_booting : (openRecord b s).booting = s.booting := rfl
@[simp] theorem openRecord_agenda : (openRecord b s).agenda = s.agenda := rfl
@[simp] theorem openRecord_draws : (openRecord b s).draws = s.draws := rfl
@[simp] theorem openRecord_desc : (openRecord b s).desc = s.desc := rfl

end openRecord

section enterGap

variable (n : Nat) (s : State)

@[simp] theorem enterGap_cfg : (enterGap n s).cfg = s.cfg := rfl
@[simp] theorem enterGap_variant : (enterGap n s).variant = s.variant := rfl
@[simp] theorem enterGap_ring : (enterGap n s).ring = s.ring := rfl
@[simp] theorem enterGap_prodCursor : (enterGap n s).prodCursor = s.prodCursor := rfl
@[simp] theorem enterGap_consCursor : (enterGap n s).consCursor = s.consCursor := rfl
@[simp] theorem enterGap_captureEnabled : (enterGap n s).captureEnabled = s.captureEnabled := rfl
@[simp] theorem enterGap_produced : (enterGap n s).produced = s.produced := rfl
@[simp] theorem enterGap_consumed : (enterGap n s).consumed = s.consumed := rfl
@[simp] theorem enterGap_overrun : (enterGap n s).overrun = s.overrun := rfl
@[simp] theorem enterGap_pstate : (enterGap n s).pstate = .scanningGap := rfl
@[simp] theorem enterGap_frameLocked : (enterGap n s).frameLocked = s.frameLocked := rfl
@[simp] theorem enterGap_lineBuf : (enterGap n s).lineBuf = s.lineBuf := rfl
@[simp] theorem enterGap_lineCount : (enterGap n s).lineCount = s.lineCount := rfl
@[simp] theorem enterGap_rowAddr : (enterGap n s).rowAddr = s.rowAddr := rfl
@[simp] theorem enterGap_gapRemaining : (enterGap n s).gapRemaining = n := rfl
@[simp] theorem enterGap_bufPing : (enterGap n s).bufPing = s.bufPing := rfl
@[simp] theorem enterGap_bufPong : (enterGap n s).bufPong = s.bufPong := rfl
@[simp] theorem enterGap_active : (enterGap n s).active = s.active := rfl
@[simp] theorem enterGap_pending : (enterGap n s).pending = s.pending := rfl
@[simp] theorem enterGap_placed : (enterGap n s).placed = s.placed := rfl
@[simp] theorem enterGap_placedCount : (enterGap n s).placedCount = s.placedCount := rfl
@[simp] theorem enterGap_prevRow : (enterGap n s).prevRow = s.prevRow := rfl
@[simp] theorem enterGap_frameId : (enterGap n s).frameId = s.frameId := rfl
@[simp] theorem enterGap_hdr : (enterGap n s).hdr = s.hdr := rfl
@[simp] theorem enterGap_sendCursor : (enterGap n s).sendCursor = s.sendCursor := rfl
@[simp] theorem enterGap_stats : (enterGap n s).stats = s.stats := rfl
@[simp] theorem enterGap_terminal : (enterGap n s).terminal = s.terminal := rfl
@[simp] theorem enterGap_cmdQueue : (enterGap n s).cmdQueue = s.cmdQueue := rfl
@[simp] theorem enterGap_history : (enterGap n s).history = s.history := rfl
@[simp] theorem enterGap_booting : (enterGap n s).booting = s.booting := rfl
@[simp] theorem enterGap_agenda : (enterGap n s).agenda = s.agenda := rfl
@[simp] theorem enterGap_draws : (enterGap n s).draws = s.draws := rfl
@[simp] theorem enterGap_desc : (enterGap n s).desc = s.desc := rfl

end enterGap

section closeRecord

variable (s : State)

@[simp] theorem closeRecord_cfg : (closeRecord s).cfg = s.cfg := rfl
@[simp] theorem closeRecord_variant : (closeRecord s).variant = s.variant := rfl
@[simp] theorem closeRecord_ring : (closeRecord s).ring = s.ring := rfl
@[simp] theorem closeRecord_prodCursor : (closeRecord s).prodCursor = s.prodCursor := rfl
@[simp] theorem closeRecord_consCursor : (closeRecord s).consCursor = s.consCursor := rfl
@[simp] theorem closeRecord_captureEnabled : (closeRecord s).captureEnabled = s.captureEnabled := rfl
@[simp] theorem closeRecord_produced : (closeRecord s).produced = s.produced := rfl
@[simp] theorem closeRecord_consumed : (closeRecord s).consumed = s.consumed := rfl
@[simp] theorem closeRecord_overrun : (closeRecord s).overrun = s.overrun := rfl
@[simp] theorem closeRecord_pstate : (closeRecord s).pstate = s.pstate := rfl
@[simp] theorem closeRecord_frameLocked : (closeRecord s).frameLocked = s.frameLocked := rfl
@[simp] theorem closeRecord_lineBuf : (closeRecord s).lineBuf = s.lineBuf := rfl
@[simp] theorem closeRecord_lineCount : (closeRecord s).lineCount = 0 := rfl
@[simp] theorem closeRecord_rowAddr : (closeRecord s).rowAddr = s.rowAddr := rfl
@[simp] theorem closeRecord_gapRemaining : (closeRecord s).gapRemaining = s.gapRemaining := rfl
@[simp] theorem closeRecord_bufPing : (closeRecord s).bufPing = s.bufPing := rfl
@[simp] theorem closeRecord_bufPong : (closeRecord s).bufPong = s.bufPong := rfl
@[simp] theorem closeRecord_active : (closeRecord s).active = s.active := rfl
@[simp] theorem closeRecord_pending : (closeRecord s).pending = s.pending := rfl
@[simp] theorem closeRecord_placed : (closeRecord s).placed = s.placed := rfl
@[simp] theorem closeRecord_placedCount : (closeRecord s).placedCount = s.placedCount := rfl
@[simp] theorem closeRecord_prevRow : (closeRecord s).prevRow = s.prevRow := rfl
@[simp] theorem closeRecord_frameId : (closeRecord s).frameId = s.frameId := rfl
@[simp] theorem closeRecord_hdr : (closeRecord s).hdr = s.hdr := rfl
@[simp] theorem closeRecord_sendCursor : (closeRecord s).sendCursor = s.sendCursor := rfl
@[simp] theorem closeRecord_stats : (closeRecord s).stats = s.stats := rfl
@[simp] theorem closeRecord_terminal : (closeRecord s).terminal = s.terminal := rfl
@[simp] theorem closeRecord_cmdQueue : (closeRecord s).cmdQueue = s.cmdQueue := rfl
@[simp] theorem closeRecord_history : (closeRecord s).history = s.history := rfl
@[simp] theorem closeRecord_booting : (closeRecord s).booting = s.booting := rfl
@[simp] theorem closeRecord_agenda : (closeRecord s).agenda = s.agenda := rfl
@[simp] theorem closeRecord_draws : (closeRecord s).draws = s.draws := rfl
@[simp] theorem closeRecord_desc : (closeRecord s).desc = s.desc := rfl

end closeRecord

section countCrcErr

variable (s : State)

@[simp] theorem countCrcErr_cfg : (countCrcErr s).cfg = s.cfg := rfl
@[simp] theorem countCrcErr_variant : (countCrcErr s).variant = s.variant := rfl
@[simp] theorem countCrcErr_ring : (countCrcErr s).ring = s.ring := rfl
@[simp] theorem countCrcErr_prodCursor : (countCrcErr s).prodCursor = s.prodCursor := rfl
@[simp] theorem countCrcErr_consCursor : (countCrcErr s).consCursor = s.consCursor := rfl
@[simp] theorem countCrcErr_captureEnabled : (countCrcErr s).captureEnabled = s.captureEnabled := rfl
@[simp] theorem countCrcErr_produced : (countCrcErr s).produced = s.produced := rfl
@[simp] theorem countCrcErr_consumed : (countCrcErr s).consumed = s.consumed := rfl
@[simp] theorem countCrcErr_overrun : (countCrcErr s).overrun = s.overrun := rfl
@[simp] theorem countCrcErr_pstate : (countCrcErr s).pstate = s.pstate := rfl
@[simp] theorem countCrcErr_frameLocked : (countCrcErr s).frameLocked = s.frameLocked := rfl
@[simp] theorem countCrcErr_lineBuf : (countCrcErr s).lineBuf = s.lineBuf := rfl
@[simp] theorem countCrcErr_lineCount : (countCrcErr s).lineCount = s.lineCount := rfl
@[simp] theorem countCrcErr_rowAddr : (countCrcErr s).rowAddr = s.rowAddr := rfl
@[simp] theorem countCrcErr_gapRemaining : (countCrcErr s).gapRemaining = s.gapRemaining := rfl
@[simp] theorem countCrcErr_bufPing : (countCrcErr s).bufPing = s.bufPing := rfl
@[simp] theorem countCrcErr_bufPong : (countCrcErr s).bufPong = s.bufPong := rfl
@[simp] theorem countCrcErr_active : (countCrcErr s).active = s.active := rfl
@[simp] theorem countCrcErr_pending : (countCrcErr s).pending = s.pending := rfl
@[simp] theorem countCrcErr_placed : (countCrcErr s).placed = s.placed := rfl
@[simp] theorem countCrcErr_placedCount : (countCrcErr s).placedCount = s.placedCount := rfl
@[simp] theorem countCrcErr_prevRow : (countCrcErr s).prevRow = s.prevRow := rfl
@[simp] theorem countCrcErr_frameId : (countCrcErr s).frameId = s.frameId := rfl
@[simp] theorem countCrcErr_hdr : (countCrcErr s).hdr = s.hdr := rfl
@[simp] theorem countCrcErr_sendCursor : (countCrcErr s).sendCursor = s.sendCursor := rfl
@[simp] theorem countCrcErr_stats : (countCrcErr s).stats = { s.stats with crcErr := s.stats.crcErr + 1 } := rfl
@[simp] theorem countCrcErr_terminal : (countCrcErr s).terminal = s.terminal := rfl
@[simp] theorem countCrcErr_cmdQueue : (countCrcErr s).cmdQueue = s.cmdQueue := rfl
@[simp] theorem countCrcErr_history : (countCrcErr s).history = s.history := rfl
@[simp] theorem countCrcErr_booting : (countCrcErr s).booting = s.booting := rfl
@[simp] theorem countCrcErr_agenda : (countCrcErr s).agenda = s.agenda := rfl
@[simp] theorem countCrcErr_draws : (countCrcErr s).draws = s.draws := rfl
@[simp] theorem countCrcErr_desc : (countCrcErr s).desc = s.desc := rfl

end countCrcErr

section countCrcOk

variable (s : State)

@[simp] theorem countCrcOk_cfg : (countCrcOk s).cfg = s.cfg := rfl
@[simp] theorem countCrcOk_variant : (countCrcOk s).variant = s.variant := rfl
@[simp] theorem countCrcOk_ring : (countCrcOk s).ring = s.ring := rfl
@[simp] theorem countCrcOk_prodCursor : (countCrcOk s).prodCursor = s.prodCursor := rfl
@[simp] theorem countCrcOk_consCursor : (countCrcOk s).consCursor = s.consCursor := rfl
@[simp] theorem countCrcOk_captureEnabled : (countCrcOk s).captureEnabled = s.captureEnabled := rfl
@[simp] theorem countCrcOk_produced : (countCrcOk s).produced = s.produced := rfl
@[simp] theorem countCrcOk_consumed : (countCrcOk s).consumed = s.consumed := rfl
@[simp] theorem countCrcOk_overrun : (countCrcOk s).overrun = s.overrun := rfl
@[simp] theorem countCrcOk_pstate : (countCrcOk s).pstate = s.pstate := rfl
@[simp] theorem countCrcOk_frameLocked : (countCrcOk s).frameLocked = s.frameLocked := rfl
@[simp] theorem countCrcOk_lineBuf : (countCrcOk s).lineBuf = s.lineBuf := rfl
@[simp] theorem countCrcOk_lineCount : (countCrcOk s).lineCount = s.lineCount := rfl
@[simp] theorem countCrcOk_rowAddr : (countCrcOk s).rowAddr = s.rowAddr := rfl
@[simp] theorem countCrcOk_gapRemaining : (countCrcOk s).gapRemaining = s.gapRemaining := rfl
@[simp] theorem countCrcOk_bufPing : (countCrcOk s).bufPing = s.bufPing := rfl
@[simp] theorem countCrcOk_bufPong : (countCrcOk s).bufPong = s.bufPong := rfl
@[simp] theorem countCrcOk_active : (countCrcOk s).active = s.active := rfl
@[simp] theorem countCrcOk_pending : (countCrcOk s).pending = s.pending := rfl
@[simp] theorem countCrcOk_placed : (countCrcOk s).placed = s.placed := rfl
@[simp] theorem countCrcOk_placedCount : (countCrcOk s).placedCount = s.placedCount := rfl
@[simp] theorem countCrcOk_prevRow : (countCrcOk s).prevRow = s.prevRow := rfl
@[simp] theorem countCrcOk_frameId : (countCrcOk s).frameId = s.frameId := rfl
@[simp] theorem countCrcOk_hdr : (countCrcOk s).hdr = s.hdr := rfl
@[simp] theorem countCrcOk_sendCursor : (countCrcOk s).sendCursor = s.sendCursor := rfl
@[simp] theorem countCrcOk_stats : (countCrcOk s).stats = { s.stats with crcOk := s.stats.crcOk + 1 } := rfl
@[simp] theorem countCrcOk_terminal : (countCrcOk s).terminal = s.terminal := rfl
@[simp] theorem countCrcOk_cmdQueue : (countCrcOk s).cmdQueue = s.cmdQueue := rfl
@[simp] theorem countCrcOk_history : (countCrcOk s).history = s.history := rfl
@[simp] theorem countCrcOk_booting : (countCrcOk s).booting = s.booting := rfl
@[simp] theorem countCrcOk_agenda : (countCrcOk s).agenda = s.agenda := rfl
@[simp] theorem countCrcOk_draws : (countCrcOk s).draws = s.draws := rfl
@[simp] theorem countCrcOk_desc : (countCrcOk s).desc = s.desc := rfl

end countCrcOk

section lockFrame

variable (s : State)

@[simp] theorem lockFrame_cfg : (lockFrame s).cfg = s.cfg := rfl
@[simp] theorem lockFrame_variant : (lockFrame s).variant = s.variant := rfl
@[simp] theorem lockFrame_ring : (lockFrame s).ring = s.ring := rfl
@[simp] theorem lockFrame_prodCursor : (lockFrame s).prodCursor = s.prodCursor := rfl
@[simp] theorem lockFrame_consCursor : (lockFrame s).consCursor = s.consCursor := rfl
@[simp] theorem lockFrame_captureEnabled : (lockFrame s).captureEnabled = s.captureEnabled := rfl
@[simp] theorem lockFrame_produced : (lockFrame s).produced = s.produced := rfl
@[simp] theorem lockFrame_consumed : (lockFrame s).consumed = s.consumed := rfl
@[simp] theorem lockFrame_overrun : (lockFrame s).overrun = s.overrun := rfl
@[simp] theorem lockFrame_pstate : (lockFrame s).pstate = s.pstate := rfl
@[simp] theorem lockFrame_frameLocked : (lockFrame s).frameLocked = true := rfl
@[simp] theorem lockFrame_lineBuf : (lockFrame s).lineBuf = s.lineBuf := rfl
@[simp] theorem lockFrame_lineCount : (lockFrame s).lineCount = s.lineCount := rfl
@[simp] theorem lockFrame_rowAddr : (lockFrame s).rowAddr = s.rowAddr := rfl
@[simp] theorem lockFrame_gapRemaining : (lockFrame s).gapRemaining = s.gapRemaining := rfl
@[simp] theorem lockFrame_bufPing : (lockFrame s).bufPing = s.bufPing := rfl
@[simp] theorem lockFrame_bufPong : (lockFrame s).bufPong = s.bufPong := rfl
@[simp] theorem lockFrame_active : (lockFrame s).active = s.active := rfl
@[simp] theorem lockFrame_pending : (lockFrame s).pending = s.pending := rfl
@[simp] theorem lockFrame_placed : (lockFrame s).placed = s.placed := rfl
@[simp] theorem lockFrame_placedCount : (lockFrame s).placedCount = s.placedCount := rfl
@[simp] theorem lockFrame_prevRow : (lockFrame s).prevRow = s.prevRow := rfl
@[simp] theorem lockFrame_frameId : (lockFrame s).frameId = s.frameId := rfl
@[simp] theorem lockFrame_hdr : (lockFrame s).hdr = s.hdr := rfl
@[simp] theorem lockFrame_sendCursor : (lockFrame s).sendCursor = s.sendCursor := rfl
@[simp] theorem lockFrame_stats : (lockFrame s).stats = s.stats := rfl
@[simp] theorem lockFrame_terminal : (lockFrame s).terminal = s.terminal := rfl
@[simp] theorem lockFrame_cmdQueue : (lockFrame s).cmdQueue = s.cmdQueue := rfl
@[simp] theorem lockFrame_history : (lockFrame s).history = s.history := rfl
@[simp] theorem lockFrame_booting : (lockFrame s).booting = s.booting := rfl
@[simp] theorem lockFrame_agenda : (lockFrame s).agenda = s.agenda := rfl
@[simp] theorem lockFrame_draws : (lockFrame s).draws = s.draws := rfl
@[simp] theorem lockFrame_desc : (lockFrame s).desc = s.desc := rfl

end lockFrame

section countDropped

variable (s : State)

@[simp] theorem countDropped_cfg : (countDropped s).cfg = s.cfg := rfl
@[simp] theorem countDropped_variant : (countDropped s).variant = s.variant := rfl
@[simp] theorem countDropped_ring : (countDropped s).ring = s.ring := rfl
@[simp] theorem countDropped_prodCursor : (countDropped s).prodCursor = s.prodCursor := rfl
@[simp] theorem countDropped_consCursor : (countDropped s).consCursor = s.consCursor := rfl
@[simp] theorem countDropped_captureEnabled : (countDropped s).captureEnabled = s.captureEnabled := rfl
@[simp] theorem countDropped_produced : (countDropped s).produced = s.produced := rfl
@[simp] theorem countDropped_consumed : (countDropped s).consumed = s.consumed := rfl
@[simp] theorem countDropped_overrun : (countDropped s).overrun = s.overrun := rfl
@[simp] theorem countDropped_pstate : (countDropped s).pstate = s.pstate := rfl
@[simp] theorem countDropped_frameLocked : (countDropped s).frameLocked = s.frameLocked := rfl
@[simp] theorem countDropped_lineBuf : (countDropped s).lineBuf = s.lineBuf := rfl
@[simp] theorem countDropped_lineCount : (countDropped s).lineCount = s.lineCount := rfl
@[simp] theorem countDropped_rowAddr : (countDropped s).rowAddr = s.rowAddr := rfl
@[simp] theorem countDropped_gapRemaining : (countDropped s).gapRemaining = s.gapRemaining := rfl
@[simp] theorem countDropped_bufPing : (countDropped s).bufPing = s.bufPing := rfl
@[simp] theorem countDropped_bufPong : (countDropped s).bufPong = s.bufPong := rfl
@[simp] theorem countDropped_active : (countDropped s).active = s.active := rfl
@[simp] theorem countDropped_pending : (countDropped s).pending = s.pending := rfl
@[simp] theorem countDropped_placed : (countDropped s).placed = s.placed := rfl
@[simp] theorem countDropped_placedCount : (countDropped s).placedCount = s.placedCount := rfl
@[simp] theorem countDropped_prevRow : (countDropped s).prevRow = s.prevRow := rfl
@[simp] theorem countDropped_frameId : (countDropped s).frameId = s.frameId := rfl
@[simp] theorem countDropped_hdr : (countDropped s).hdr = s.hdr := rfl
@[simp] theorem countDropped_sendCursor : (countDropped s).sendCursor = s.sendCursor := rfl
@[simp] theorem countDropped_stats : (countDropped s).stats = { s.stats with framesDropped := s.stats.framesDropped + 1 } := rfl
@[simp] theorem countDropped_terminal : (countDropped s).terminal = s.terminal := rfl
@[simp] theorem countDropped_cmdQueue : (countDropped s).cmdQueue = s.cmdQueue := rfl
@[simp] theorem countDropped_history : (countDropped s).history = s.history := rfl
@[simp] theorem countDropped_booting : (countDropped s).booting = s.booting := rfl
@[simp] theorem countDropped_agenda : (countDropped s).agenda = s.agenda := rfl
@[simp] theorem countDropped_draws : (countDropped s).draws = s.draws := rfl
@[simp] theorem countDropped_desc : (countDropped s).desc = s.desc := rfl

end countDropped

section countSent

variable (s : State)

@[simp] theorem countSent_cfg : (countSent s).cfg = s.cfg := rfl
@[simp] theorem countSent_variant : (countSent s).variant = s.variant := rfl
@[simp] theorem countSent_ring : (countSent s).ring = s.ring := rfl
@[simp] theorem countSent_prodCursor : (countSent s).prodCursor = s.prodCursor := rfl
@[simp] theorem countSent_consCursor : (countSent s).consCursor = s.consCursor := rfl
@[simp] theorem countSent_captureEnabled : (countSent s).captureEnabled = s.captureEnabled := rfl
@[simp] theorem countSent_produced : (countSent s).produced = s.produced := rfl
@[simp] theorem countSent_consumed : (countSent s).consumed = s.consumed := rfl
@[simp] theorem countSent_overrun : (countSent s).overrun = s.overrun := rfl
@[simp] theorem countSent_pstate : (countSent s).pstate = s.pstate := rfl
@[simp] theorem countSent_frameLocked : (countSent s).frameLocked = s.frameLocked := rfl
@[simp] theorem countSent_lineBuf : (countSent s).lineBuf = s.lineBuf := rfl
@[simp] theorem countSent_lineCount : (countSent s).lineCount = s.lineCount := rfl
@[simp] theorem countSent_rowAddr : (countSent s).rowAddr = s.rowAddr := rfl
@[simp] theorem countSent_gapRemaining : (countSent s).gapRemaining = s.gapRemaining := rfl
@[simp] theorem countSent_bufPing : (countSent s).bufPing = s.bufPing := rfl
@[simp] theorem countSent_bufPong : (countSent s).bufPong = s.bufPong := rfl
@[simp] theorem countSent_active : (countSent s).active = s.active := rfl
@[simp] theorem countSent_pending : (countSent s).pending = s.pending := rfl
@[simp] theorem countSent_placed : (countSent s).placed = s.placed := rfl
@[simp] theorem countSent_placedCount : (countSent s).placedCount = s.placedCount := rfl
@[simp] theorem countSent_prevRow : (countSent s).prevRow = s.prevRow := rfl
@[simp] theorem countSent_frameId : (countSent s).frameId = s.frameId := rfl
@[simp] theorem countSent_hdr : (countSent s).hdr = s.hdr := rfl
@[simp] theorem countSent_sendCursor : (countSent s).sendCursor = s.sendCursor := rfl
@[simp] theorem countSent_stats : (countSent s).stats = { s.stats with framesSent := s.stats.framesSent + 1 } := rfl
@[simp] theorem countSent_terminal : (countSent s).terminal = s.terminal := rfl
@[simp] theorem countSent_cmdQueue : (countSent s).cmdQueue = s.cmdQueue := rfl
@[simp] theorem countSent_history : (countSent s).history = s.history := rfl
@[simp] theorem countSent_booting : (countSent s).booting = s.booting := rfl
@[simp] theorem countSent_agenda : (countSent s).agenda = s.agenda := rfl
@[simp] theorem countSent_draws : (countSent s).draws = s.draws := rfl
@[simp] theorem countSent_desc : (countSent s).desc = s.desc := rfl

end countSent

section takeSlot

variable (s : State)

@[simp] theorem takeSlot_cfg : (takeSlot s).cfg = s.cfg := rfl
@[simp] theorem takeSlot_variant : (takeSlot s).variant = s.variant := rfl
@[simp] theorem takeSlot_ring : (takeSlot s).ring = s.ring := rfl
@[simp] theorem takeSlot_prodCursor : (takeSlot s).prodCursor = s.prodCursor := rfl
@[simp] theorem takeSlot_consCursor : (takeSlot s).consCursor = s.consCursor := rfl
@[simp] theorem takeSlot_captureEnabled : (takeSlot s).captureEnabled = s.captureEnabled := rfl
@[simp] theorem takeSlot_produced : (takeSlot s).produced = s.produced := rfl
@[simp] theorem takeSlot_consumed : (takeSlot s).consumed = s.consumed := rfl
@[simp] theorem takeSlot_overrun : (takeSlot s).overrun = s.overrun := rfl
@[simp] theorem takeSlot_pstate : (takeSlot s).pstate = s.pstate := rfl
@[simp] theorem takeSlot_frameLocked : (takeSlot s).frameLocked = s.frameLocked := rfl
@[simp] theorem takeSlot_lineBuf : (takeSlot s).lineBuf = s.lineBuf := rfl
@[simp] theorem takeSlot_lineCount : (takeSlot s).lineCount = s.lineCount := rfl
@[simp] theorem takeSlot_rowAddr : (takeSlot s).rowAddr = s.rowAddr := rfl
@[simp] theorem takeSlot_gapRemaining : (takeSlot s).gapRemaining = s.gapRemaining := rfl
@[simp] theorem takeSlot_bufPing : (takeSlot s).bufPing = s.bufPing := rfl
@[simp] theorem takeSlot_bufPong : (takeSlot s).bufPong = s.bufPong := rfl
@[simp] theorem takeSlot_active : (takeSlot s).active = s.active := rfl
@[simp] theorem takeSlot_pending : (takeSlot s).pending = true := rfl
@[simp] theorem takeSlot_placed : (takeSlot s).placed = s.placed := rfl
@[simp] theorem takeSlot_placedCount : (takeSlot s).placedCount = s.placedCount := rfl
@[simp] theorem takeSlot_prevRow : (takeSlot s).prevRow = s.prevRow := rfl
@[simp] theorem takeSlot_frameId : (takeSlot s).frameId = s.frameId := rfl
@[simp] theorem takeSlot_hdr : (takeSlot s).hdr = s.hdr := rfl
@[simp] theorem takeSlot_sendCursor : (takeSlot s).sendCursor = 0 := rfl
@[simp] theorem takeSlot_stats : (takeSlot s).stats = s.stats := rfl
@[simp] theorem takeSlot_terminal : (takeSlot s).terminal = s.terminal := rfl
@[simp] theorem takeSlot_cmdQueue : (takeSlot s).cmdQueue = s.cmdQueue := rfl
@[simp] theorem takeSlot_history : (takeSlot s).history = s.history := rfl
@[simp] theorem takeSlot_booting : (takeSlot s).booting = s.booting := rfl
@[simp] theorem takeSlot_agenda : (takeSlot s).agenda = s.agenda := rfl
@[simp] theorem takeSlot_draws : (takeSlot s).draws = s.draws := rfl
@[simp] theorem takeSlot_desc : (takeSlot s).desc = s.desc := rfl

end takeSlot

section swapActive

variable (s : State)

@[simp] theorem swapActive_cfg : (swapActive s).cfg = s.cfg := rfl
@[simp] theorem swapActive_variant : (swapActive s).variant = s.variant := rfl
@[simp] theorem swapActive_ring : (swapActive s).ring = s.ring := rfl
@[simp] theorem swapActive_prodCursor : (swapActive s).prodCursor = s.prodCursor := rfl
@[simp] theorem swapActive_consCursor : (swapActive s).consCursor = s.consCursor := rfl
@[simp] theorem swapActive_captureEnabled : (swapActive s).captureEnabled = s.captureEnabled := rfl
@[simp] theorem swapActive_produced : (swapActive s).produced = s.produced := rfl
@[simp] theorem swapActive_consumed : (swapActive s).consumed = s.consumed := rfl
@[simp] theorem swapActive_overrun : (swapActive s).overrun = s.overrun := rfl
@[simp] theorem swapActive_pstate : (swapActive s).pstate = s.pstate := rfl
@[simp] theorem swapActive_frameLocked : (swapActive s).frameLocked = s.frameLocked := rfl
@[simp] theorem swapActive_lineBuf : (swapActive s).lineBuf = s.lineBuf := rfl
@[simp] theorem swapActive_lineCount : (swapActive s).lineCount = s.lineCount := rfl
@[simp] theorem swapActive_rowAddr : (swapActive s).rowAddr = s.rowAddr := rfl
@[simp] theorem swapActive_gapRemaining : (swapActive s).gapRemaining = s.gapRemaining := rfl
@[simp] theorem swapActive_bufPing : (swapActive s).bufPing = s.bufPing := rfl
@[simp] theorem swapActive_bufPong : (swapActive s).bufPong = s.bufPong := rfl
@[simp] theorem swapActive_active : (swapActive s).active = s.active.other := rfl
@[simp] theorem swapActive_pending : (swapActive s).pending = s.pending := rfl
@[simp] theorem swapActive_placed : (swapActive s).placed = s.placed := rfl
@[simp] theorem swapActive_placedCount : (swapActive s).placedCount = s.placedCount := rfl
@[simp] theorem swapActive_prevRow : (swapActive s).prevRow = s.prevRow := rfl
@[simp] theorem swapActive_frameId : (swapActive s).frameId = s.frameId := rfl
@[simp] theorem swapActive_hdr : (swapActive s).hdr = s.hdr := rfl
@[simp] theorem swapActive_sendCursor : (swapActive s).sendCursor = s.sendCursor := rfl
@[simp] theorem swapActive_stats : (swapActive s).stats = s.stats := rfl
@[simp] theorem swapActive_terminal : (swapActive s).terminal = s.terminal := rfl
@[simp] theorem swapActive_cmdQueue : (swapActive s).cmdQueue = s.cmdQueue := rfl
@[simp] theorem swapActive_history : (swapActive s).history = s.history := rfl
@[simp] theorem swapActive_booting : (swapActive s).booting = s.booting := rfl
@[simp] theorem swapActive_agenda : (swapActive s).agenda = s.agenda := rfl
@[simp] theorem swapActive_draws : (swapActive s).draws = s.draws := rfl
@[simp] theorem swapActive_desc : (swapActive s).desc = s.desc := rfl

end swapActive

section nextFrameId

variable (s : State)

@[simp] theorem nextFrameId_cfg : (nextFrameId s).cfg = s.cfg := rfl
@[simp] theorem nextFrameId_variant : (nextFrameId s).variant = s.variant := rfl
@[simp] theorem nextFrameId_ring : (nextFrameId s).ring = s.ring := rfl
@[simp] theorem nextFrameId_prodCursor : (nextFrameId s).prodCursor = s.prodCursor := rfl
@[simp] theorem nextFrameId_consCursor : (nextFrameId s).consCursor = s.consCursor := rfl
@[simp] theorem nextFrameId_captureEnabled : (nextFrameId s).captureEnabled = s.captureEnabled := rfl
@[simp] theorem nextFrameId_produced : (nextFrameId s).produced = s.produced := rfl
@[simp] theorem nextFrameId_consumed : (nextFrameId s).consumed = s.consumed := rfl
@[simp] theorem nextFrameId_overrun : (nextFrameId s).overrun = s.overrun := rfl
@[simp] theorem nextFrameId_pstate : (nextFrameId s).pstate = s.pstate := rfl
@[simp] theorem nextFrameId_frameLocked : (nextFrameId s).frameLocked = s.frameLocked := rfl
@[simp] theorem nextFrameId_lineBuf : (nextFrameId s).lineBuf = s.lineBuf := rfl
@[simp] theorem nextFrameId_lineCount : (nextFrameId s).lineCount = s.lineCount := rfl
@[simp] theorem nextFrameId_rowAddr : (nextFrameId s).rowAddr = s.rowAddr := rfl
@[simp] theorem nextFrameId_gapRemaining : (nextFrameId s).gapRemaining = s.gapRemaining := rfl
@[simp] theorem nextFrameId_bufPing : (nextFrameId s).bufPing = s.bufPing := rfl
@[simp] theorem nextFrameId_bufPong : (nextFrameId s).bufPong = s.bufPong := rfl
@[simp] theorem nextFrameId_active : (nextFrameId s).active = s.active := rfl
@[simp] theorem nextFrameId_pending : (nextFrameId s).pending = s.pending := rfl
@[simp] theorem nextFrameId_placed : (nextFrameId s).placed = s.placed := rfl
@[simp] theorem nextFrameId_placedCount : (nextFrameId s).placedCount = s.placedCount := rfl
@[simp] theorem nextFrameId_prevRow : (nextFrameId s).prevRow = s.prevRow := rfl
@[simp] theorem nextFrameId_frameId : (nextFrameId s).frameId = s.frameId + 1 := rfl
@[simp] theorem nextFrameId_hdr : (nextFrameId s).hdr = s.hdr := rfl
@[simp] theorem nextFrameId_sendCursor : (nextFrameId s).sendCursor = s.sendCursor := rfl
@[simp] theorem nextFrameId_stats : (nextFrameId s).stats = s.stats := rfl
@[simp] theorem nextFrameId_terminal : (nextFrameId s).terminal = s.terminal := rfl
@[simp] theorem nextFrameId_cmdQueue : (nextFrameId s).cmdQueue = s.cmdQueue := rfl
@[simp] theorem nextFrameId_history : (nextFrameId s).history = s.history := rfl
@[simp] theorem nextFrameId_booting : (nextFrameId s).booting = s.booting := rfl
@[simp] theorem nextFrameId_agenda : (nextFrameId s).agenda = s.agenda := rfl
@[simp] theorem nextFrameId_draws : (nextFrameId s).draws = s.draws := rfl
@[simp] theorem nextFrameId_desc : (nextFrameId s).desc = s.desc := rfl

end nextFrameId

section setPrevRow

variable (row : Byte) (s : State)

@[simp] theorem setPrevRow_cfg : (setPrevRow row s).cfg = s.cfg := rfl
@[simp] theorem setPrevRow_variant : (setPrevRow row s).variant = s.variant := rfl
@[simp] theorem setPrevRow_ring : (setPrevRow row s).ring = s.ring := rfl
@[simp] theorem setPrevRow_prodCursor : (setPrevRow row s).prodCursor = s.prodCursor := rfl
@[simp] theorem setPrevRow_consCursor : (setPrevRow row s).consCursor = s.consCursor := rfl
@[simp] theorem setPrevRow_captureEnabled : (setPrevRow row s).captureEnabled = s.captureEnabled := rfl
@[simp] theorem setPrevRow_produced : (setPrevRow row s).produced = s.produced := rfl
@[simp] theorem setPrevRow_consumed : (setPrevRow row s).consumed = s.consumed := rfl
@[simp] theorem setPrevRow_overrun : (setPrevRow row s).overrun = s.overrun := rfl
@[simp] theorem setPrevRow_pstate : (setPrevRow row s).pstate = s.pstate := rfl
@[simp] theorem setPrevRow_frameLocked : (setPrevRow row s).frameLocked = s.frameLocked := rfl
@[simp] theorem setPrevRow_lineBuf : (setPrevRow row s).lineBuf = s.lineBuf := rfl
@[simp] theorem setPrevRow_lineCount : (setPrevRow row s).lineCount = s.lineCount := rfl
@[simp] theorem setPrevRow_rowAddr : (setPrevRow row s).rowAddr = s.rowAddr := rfl
@[simp] theorem setPrevRow_gapRemaining : (setPrevRow row s).gapRemaining = s.gapRemaining := rfl
@[simp] theorem setPrevRow_bufPing : (setPrevRow row s).bufPing = s.bufPing := rfl
@[simp] theorem setPrevRow_bufPong : (setPrevRow row s).bufPong = s.bufPong := rfl
@[simp] theorem setPrevRow_active : (setPrevRow row s).active = s.active := rfl
@[simp] theorem setPrevRow_pending : (setPrevRow row s).pending = s.pending := rfl
@[simp] theorem setPrevRow_placed : (setPrevRow row s).placed = s.placed := rfl
@[simp] theorem setPrevRow_placedCount : (setPrevRow row s).placedCount = s.placedCount := rfl
@[simp] theorem setPrevRow_prevRow : (setPrevRow row s).prevRow = row := rfl
@[simp] theorem setPrevRow_frameId : (setPrevRow row s).frameId = s.frameId := rfl
@[simp] theorem setPrevRow_hdr : (setPrevRow row s).hdr = s.hdr := rfl
@[simp] theorem setPrevRow_sendCursor : (setPrevRow row s).sendCursor = s.sendCursor := rfl
@[simp] theorem setPrevRow_stats : (setPrevRow row s).stats = s.stats := rfl
@[simp] theorem setPrevRow_terminal : (setPrevRow row s).terminal = s.terminal := rfl
@[simp] theorem setPrevRow_cmdQueue : (setPrevRow row s).cmdQueue = s.cmdQueue := rfl
@[simp] theorem setPrevRow_history : (setPrevRow row s).history = s.history := rfl
@[simp] theorem setPrevRow_booting : (setPrevRow row s).booting = s.booting := rfl
@[simp] theorem setPrevRow_agenda : (setPrevRow row s).agenda = s.agenda := rfl
@[simp] theorem setPrevRow_draws : (setPrevRow row s).draws = s.draws := rfl
@[simp] theorem setPrevRow_desc : (setPrevRow row s).desc = s.desc := rfl

end setPrevRow

section releaseSlot

variable (s : State)

@[simp] theorem releaseSlot_cfg : (releaseSlot s).cfg = s.cfg := rfl
@[simp] theorem releaseSlot_variant : (releaseSlot s).variant = s.variant := rfl
@[simp] theorem releaseSlot_ring : (releaseSlot s).ring = s.ring := rfl
@[simp] theorem releaseSlot_prodCursor : (releaseSlot s).prodCursor = s.prodCursor := rfl
@[simp] theorem releaseSlot_consCursor : (releaseSlot s).consCursor = s.consCursor := rfl
@[simp] theorem releaseSlot_captureEnabled : (releaseSlot s).captureEnabled = s.captureEnabled := rfl
@[simp] theorem releaseSlot_produced : (releaseSlot s).produced = s.produced := rfl
@[simp] theorem releaseSlot_consumed : (releaseSlot s).consumed = s.consumed := rfl
@[simp] theorem releaseSlot_overrun : (releaseSlot s).overrun = s.overrun := rfl
@[simp] theorem releaseSlot_pstate : (releaseSlot s).pstate = s.pstate := rfl
@[simp] theorem releaseSlot_frameLocked : (releaseSlot s).frameLocked = s.frameLocked := rfl
@[simp] theorem releaseSlot_lineBuf : (releaseSlot s).lineBuf = s.lineBuf := rfl
@[simp] theorem releaseSlot_lineCount : (releaseSlot s).lineCount = s.lineCount := rfl
@[simp] theorem releaseSlot_rowAddr : (releaseSlot s).rowAddr = s.rowAddr := rfl
@[simp] theorem releaseSlot_gapRemaining : (releaseSlot s).gapRemaining = s.gapRemaining := rfl
@[simp] theorem releaseSlot_bufPing : (releaseSlot s).bufPing = s.bufPing := rfl
@[simp] theorem releaseSlot_bufPong : (releaseSlot s).bufPong = s.bufPong := rfl
@[simp] theorem releaseSlot_active : (releaseSlot s).active = s.active := rfl
@[simp] theorem releaseSlot_pending : (releaseSlot s).pending = false := rfl
@[simp] theorem releaseSlot_placed : (releaseSlot s).placed = s.placed := rfl
@[simp] theorem releaseSlot_placedCount : (releaseSlot s).placedCount = s.placedCount := rfl
@[simp] theorem releaseSlot_prevRow : (releaseSlot s).prevRow = s.prevRow := rfl
@[simp] theorem releaseSlot_frameId : (releaseSlot s).frameId = s.frameId := rfl
@[simp] theorem releaseSlot_hdr : (releaseSlot s).hdr = s.hdr := rfl
@[simp] theorem releaseSlot_sendCursor : (releaseSlot s).sendCursor = 0 := rfl
@[simp] theorem releaseSlot_stats : (releaseSlot s).stats = s.stats := rfl
@[simp] theorem releaseSlot_terminal : (releaseSlot s).terminal = s.terminal := rfl
@[simp] theorem releaseSlot_cmdQueue : (releaseSlot s).cmdQueue = s.cmdQueue := rfl
@[simp] theorem releaseSlot_history : (releaseSlot s).history = s.history := rfl
@[simp] theorem releaseSlot_booting : (releaseSlot s).booting = s.booting := rfl
@[simp] theorem releaseSlot_agenda : (releaseSlot s).agenda = s.agenda := rfl
@[simp] theorem releaseSlot_draws : (releaseSlot s).draws = s.draws := rfl
@[simp] theorem releaseSlot_desc : (releaseSlot s).desc = s.desc := rfl

end releaseSlot

section setQueue

variable (q : List Byte) (s : State)

@[simp] theorem setQueue_cfg : (setQueue q s).cfg = s.cfg := rfl
@[simp] theorem setQueue_variant : (setQueue q s).variant = s.variant := rfl
@[simp] theorem setQueue_ring : (setQueue q s).ring = s.ring := rfl
@[simp] theorem setQueue_prodCursor : (setQueue q s).prodCursor = s.prodCursor := rfl
@[simp] theorem setQueue_consCursor : (setQueue q s).consCursor = s.consCursor := rfl
@[simp] theorem setQueue_captureEnabled : (setQueue q s).captureEnabled = s.captureEnabled := rfl
@[simp] theorem setQueue_produced : (setQueue q s).produced = s.produced := rfl
@[simp] theorem setQueue_consumed : (setQueue q s).consumed = s.consumed := rfl
@[simp] theorem setQueue_overrun : (setQueue q s).overrun = s.overrun := rfl
@[simp] theorem setQueue_pstate : (setQueue q s).pstate = s.pstate := rfl
@[simp] theorem setQueue_frameLocked : (setQueue q s).frameLocked = s.frameLocked := rfl
@[simp] theorem setQueue_lineBuf : (setQueue q s).lineBuf = s.lineBuf := rfl
@[simp] theorem setQueue_lineCount : (setQueue q s).lineCount = s.lineCount := rfl
@[simp] theorem setQueue_rowAddr : (setQueue q s).rowAddr = s.rowAddr := rfl
@[simp] theorem setQueue_gapRemaining : (setQueue q s).gapRemaining = s.gapRemaining := rfl
@[simp] theorem setQueue_bufPing : (setQueue q s).bufPing = s.bufPing := rfl
@[simp] theorem setQueue_bufPong : (setQueue q s).bufPong = s.bufPong := rfl
@[simp] theorem setQueue_active : (setQueue q s).active = s.active := rfl
@[simp] theorem setQueue_pending : (setQueue q s).pending = s.pending := rfl
@[simp] theorem setQueue_placed : (setQueue q s).placed = s.placed := rfl
@[simp] theorem setQueue_placedCount : (setQueue q s).placedCount = s.placedCount := rfl
@[simp] theorem setQueue_prevRow : (setQueue q s).prevRow = s.prevRow := rfl
@[simp] theorem setQueue_frameId : (setQueue q s).frameId = s.frameId := rfl
@[simp] theorem setQueue_hdr : (setQueue q s).hdr = s.hdr := rfl
@[simp] theorem setQueue_sendCursor : (setQueue q s).sendCursor = s.sendCursor := rfl
@[simp] theorem setQueue_stats : (setQueue q s).stats = s.stats := rfl
@[simp] theorem setQueue_terminal : (setQueue q s).terminal = s.terminal := rfl
@[simp] theorem setQueue_cmdQueue : (setQueue q s).cmdQueue = q := rfl
@[simp] theorem setQueue_history : (setQueue q s).history = s.history := rfl
@[simp] theorem setQueue_booting : (setQueue q s).booting = s.booting := rfl
@[simp] theorem setQueue_agenda : (setQueue q s).agenda = s.agenda := rfl
@[simp] theorem setQueue_draws : (setQueue q s).draws = s.draws := rfl
@[simp] theorem setQueue_desc : (setQueue q s).desc = s.desc := rfl

end setQueue

@[simp] theorem setBuffer_ping (m : Memory) (s : State) : (setBuffer .ping m s).bufPing = m := rfl
@[simp] theorem setBuffer_ping_pong (m : Memory) (s : State) :
    (setBuffer .ping m s).bufPong = s.bufPong := rfl
@[simp] theorem setBuffer_pong (m : Memory) (s : State) : (setBuffer .pong m s).bufPong = m := rfl
@[simp] theorem setBuffer_pong_ping (m : Memory) (s : State) :
    (setBuffer .pong m s).bufPing = s.bufPing := rfl

/-- The buffer written reads back as written, and the other is left. -/
theorem buffer_setBuffer (j k : BufferId) (m : Memory) (s : State) :
    buffer (setBuffer k m s) j = if j = k then m else buffer s j := by
  cases j <;> cases k <;> rfl

@[simp] theorem buffer_emit (e : Event) (s : State) (k : BufferId) : buffer (emit e s) k = buffer s k := by
  cases k <;> rfl

@[simp] theorem buffer_setPrevRow (row : Byte) (s : State) (k : BufferId) :
    buffer (setPrevRow row s) k = buffer s k := by cases k <;> rfl

@[simp] theorem buffer_swapActive (s : State) (k : BufferId) : buffer (swapActive s) k = buffer s k := by
  cases k <;> rfl

@[simp] theorem buffer_stampHeader (s : State) (k : BufferId) : buffer (stampHeader s) k = buffer s k := by
  cases k <;> rfl

@[simp] theorem buffer_takeSlot (s : State) (k : BufferId) : buffer (takeSlot s) k = buffer s k := by
  cases k <;> rfl

@[simp] theorem buffer_countSent (s : State) (k : BufferId) : buffer (countSent s) k = buffer s k := by
  cases k <;> rfl

@[simp] theorem buffer_countDropped (s : State) (k : BufferId) :
    buffer (countDropped s) k = buffer s k := by cases k <;> rfl

@[simp] theorem buffer_nextFrameId (s : State) (k : BufferId) : buffer (nextFrameId s) k = buffer s k := by
  cases k <;> rfl

@[simp] theorem BufferId.other_other (k : BufferId) : k.other.other = k := by cases k <;> rfl

@[simp] theorem BufferId.other_ne (k : BufferId) : k.other ≠ k := by cases k <;> decide

/-- The activated buffer is cleared below the frame size, and the other is left (R177). -/
theorem buffer_activate (j k : BufferId) (s : State) :
    buffer (activate k s) j =
      if j = k then Memory.clearBelow s.desc.frameSize (buffer s k) else buffer s j := by
  cases j <;> cases k <;> rfl

end Sys2Proof.Machine
end

