-- ==== Sys2Proof/Laws/Assembler.lean ====
section
/-! SUPPORT. What the operations of the frame assembler leave and what they write, field by field: the
boundary (R173 to R177), the placement (R178, R179) and HANDLE_LINE (R171). -/

namespace Sys2Proof.Machine

section bufWriteBytes

variable (k : BufferId) (o : Nat) (bs : List Byte) (s : State)

@[simp] theorem bufWriteBytes_cfg : (bufWriteBytes k o bs s).cfg = s.cfg := by simp [bufWriteBytes]
@[simp] theorem bufWriteBytes_variant : (bufWriteBytes k o bs s).variant = s.variant := by simp [bufWriteBytes]
@[simp] theorem bufWriteBytes_ring : (bufWriteBytes k o bs s).ring = s.ring := by simp [bufWriteBytes]
@[simp] theorem bufWriteBytes_prodCursor : (bufWriteBytes k o bs s).prodCursor = s.prodCursor := by simp [bufWriteBytes]
@[simp] theorem bufWriteBytes_consCursor : (bufWriteBytes k o bs s).consCursor = s.consCursor := by simp [bufWriteBytes]
@[simp] theorem bufWriteBytes_captureEnabled : (bufWriteBytes k o bs s).captureEnabled = s.captureEnabled := by simp [bufWriteBytes]
@[simp] theorem bufWriteBytes_produced : (bufWriteBytes k o bs s).produced = s.produced := by simp [bufWriteBytes]
@[simp] theorem bufWriteBytes_consumed : (bufWriteBytes k o bs s).consumed = s.consumed := by simp [bufWriteBytes]
@[simp] theorem bufWriteBytes_overrun : (bufWriteBytes k o bs s).overrun = s.overrun := by simp [bufWriteBytes]
@[simp] theorem bufWriteBytes_pstate : (bufWriteBytes k o bs s).pstate = s.pstate := by simp [bufWriteBytes]
@[simp] theorem bufWriteBytes_frameLocked : (bufWriteBytes k o bs s).frameLocked = s.frameLocked := by simp [bufWriteBytes]
@[simp] theorem bufWriteBytes_lineBuf : (bufWriteBytes k o bs s).lineBuf = s.lineBuf := by simp [bufWriteBytes]
@[simp] theorem bufWriteBytes_lineCount : (bufWriteBytes k o bs s).lineCount = s.lineCount := by simp [bufWriteBytes]
@[simp] theorem bufWriteBytes_rowAddr : (bufWriteBytes k o bs s).rowAddr = s.rowAddr := by simp [bufWriteBytes]
@[simp] theorem bufWriteBytes_gapRemaining : (bufWriteBytes k o bs s).gapRemaining = s.gapRemaining := by simp [bufWriteBytes]
@[simp] theorem bufWriteBytes_active : (bufWriteBytes k o bs s).active = s.active := by simp [bufWriteBytes]
@[simp] theorem bufWriteBytes_pending : (bufWriteBytes k o bs s).pending = s.pending := by simp [bufWriteBytes]
@[simp] theorem bufWriteBytes_placed : (bufWriteBytes k o bs s).placed = s.placed := by simp [bufWriteBytes]
@[simp] theorem bufWriteBytes_placedCount : (bufWriteBytes k o bs s).placedCount = s.placedCount := by simp [bufWriteBytes]
@[simp] theorem bufWriteBytes_prevRow : (bufWriteBytes k o bs s).prevRow = s.prevRow := by simp [bufWriteBytes]
@[simp] theorem bufWriteBytes_frameId : (bufWriteBytes k o bs s).frameId = s.frameId := by simp [bufWriteBytes]
@[simp] theorem bufWriteBytes_hdr : (bufWriteBytes k o bs s).hdr = s.hdr := by simp [bufWriteBytes]
@[simp] theorem bufWriteBytes_sendCursor : (bufWriteBytes k o bs s).sendCursor = s.sendCursor := by simp [bufWriteBytes]
@[simp] theorem bufWriteBytes_stats : (bufWriteBytes k o bs s).stats = s.stats := by simp [bufWriteBytes]
@[simp] theorem bufWriteBytes_terminal : (bufWriteBytes k o bs s).terminal = s.terminal := by simp [bufWriteBytes]
@[simp] theorem bufWriteBytes_cmdQueue : (bufWriteBytes k o bs s).cmdQueue = s.cmdQueue := by simp [bufWriteBytes]
@[simp] theorem bufWriteBytes_history : (bufWriteBytes k o bs s).history = s.history := by simp [bufWriteBytes]
@[simp] theorem bufWriteBytes_booting : (bufWriteBytes k o bs s).booting = s.booting := by simp [bufWriteBytes]
@[simp] theorem bufWriteBytes_agenda : (bufWriteBytes k o bs s).agenda = s.agenda := by simp [bufWriteBytes]
@[simp] theorem bufWriteBytes_draws : (bufWriteBytes k o bs s).draws = s.draws := by simp [bufWriteBytes]
@[simp] theorem bufWriteBytes_desc : (bufWriteBytes k o bs s).desc = s.desc := by simp [State.desc]

end bufWriteBytes

/-- The buffer written holds the bytes, and the other is left (R73). -/
theorem buffer_bufWriteBytes (j k : BufferId) (o : Nat) (bs : List Byte) (s : State) :
    buffer (bufWriteBytes k o bs s) j =
      if j = k then Memory.writeBytes (buffer s k) o bs else buffer s j :=
  buffer_setBuffer j k _ s

section markPlaced

variable (row : Byte) (s : State)

@[simp] theorem markPlaced_cfg : (markPlaced row s).cfg = s.cfg := by unfold markPlaced; split <;> rfl
@[simp] theorem markPlaced_variant : (markPlaced row s).variant = s.variant := by unfold markPlaced; split <;> rfl
@[simp] theorem markPlaced_ring : (markPlaced row s).ring = s.ring := by unfold markPlaced; split <;> rfl
@[simp] theorem markPlaced_prodCursor : (markPlaced row s).prodCursor = s.prodCursor := by unfold markPlaced; split <;> rfl
@[simp] theorem markPlaced_consCursor : (markPlaced row s).consCursor = s.consCursor := by unfold markPlaced; split <;> rfl
@[simp] theorem markPlaced_captureEnabled : (markPlaced row s).captureEnabled = s.captureEnabled := by unfold markPlaced; split <;> rfl
@[simp] theorem markPlaced_produced : (markPlaced row s).produced = s.produced := by unfold markPlaced; split <;> rfl
@[simp] theorem markPlaced_consumed : (markPlaced row s).consumed = s.consumed := by unfold markPlaced; split <;> rfl
@[simp] theorem markPlaced_overrun : (markPlaced row s).overrun = s.overrun := by unfold markPlaced; split <;> rfl
@[simp] theorem markPlaced_pstate : (markPlaced row s).pstate = s.pstate := by unfold markPlaced; split <;> rfl
@[simp] theorem markPlaced_frameLocked : (markPlaced row s).frameLocked = s.frameLocked := by unfold markPlaced; split <;> rfl
@[simp] theorem markPlaced_lineBuf : (markPlaced row s).lineBuf = s.lineBuf := by unfold markPlaced; split <;> rfl
@[simp] theorem markPlaced_lineCount : (markPlaced row s).lineCount = s.lineCount := by unfold markPlaced; split <;> rfl
@[simp] theorem markPlaced_rowAddr : (markPlaced row s).rowAddr = s.rowAddr := by unfold markPlaced; split <;> rfl
@[simp] theorem markPlaced_gapRemaining : (markPlaced row s).gapRemaining = s.gapRemaining := by unfold markPlaced; split <;> rfl
@[simp] theorem markPlaced_bufPing : (markPlaced row s).bufPing = s.bufPing := by unfold markPlaced; split <;> rfl
@[simp] theorem markPlaced_bufPong : (markPlaced row s).bufPong = s.bufPong := by unfold markPlaced; split <;> rfl
@[simp] theorem markPlaced_active : (markPlaced row s).active = s.active := by unfold markPlaced; split <;> rfl
@[simp] theorem markPlaced_pending : (markPlaced row s).pending = s.pending := by unfold markPlaced; split <;> rfl
@[simp] theorem markPlaced_prevRow : (markPlaced row s).prevRow = s.prevRow := by unfold markPlaced; split <;> rfl
@[simp] theorem markPlaced_frameId : (markPlaced row s).frameId = s.frameId := by unfold markPlaced; split <;> rfl
@[simp] theorem markPlaced_hdr : (markPlaced row s).hdr = s.hdr := by unfold markPlaced; split <;> rfl
@[simp] theorem markPlaced_sendCursor : (markPlaced row s).sendCursor = s.sendCursor := by unfold markPlaced; split <;> rfl
@[simp] theorem markPlaced_stats : (markPlaced row s).stats = s.stats := by unfold markPlaced; split <;> rfl
@[simp] theorem markPlaced_terminal : (markPlaced row s).terminal = s.terminal := by unfold markPlaced; split <;> rfl
@[simp] theorem markPlaced_cmdQueue : (markPlaced row s).cmdQueue = s.cmdQueue := by unfold markPlaced; split <;> rfl
@[simp] theorem markPlaced_history : (markPlaced row s).history = s.history := by unfold markPlaced; split <;> rfl
@[simp] theorem markPlaced_booting : (markPlaced row s).booting = s.booting := by unfold markPlaced; split <;> rfl
@[simp] theorem markPlaced_agenda : (markPlaced row s).agenda = s.agenda := by unfold markPlaced; split <;> rfl
@[simp] theorem markPlaced_draws : (markPlaced row s).draws = s.draws := by unfold markPlaced; split <;> rfl
@[simp] theorem markPlaced_desc : (markPlaced row s).desc = s.desc := by unfold markPlaced; split <;> rfl

end markPlaced

@[simp] theorem buffer_markPlaced (row : Byte) (s : State) (k : BufferId) :
    buffer (markPlaced row s) k = buffer s k := by cases k <;> simp [buffer]

section placeLine

variable (row : Byte) (bytes : List Byte) (s : State)

@[simp] theorem placeLine_cfg : (placeLine row bytes s).cfg = s.cfg := by simp [placeLine]
@[simp] theorem placeLine_variant : (placeLine row bytes s).variant = s.variant := by simp [placeLine]
@[simp] theorem placeLine_ring : (placeLine row bytes s).ring = s.ring := by simp [placeLine]
@[simp] theorem placeLine_prodCursor : (placeLine row bytes s).prodCursor = s.prodCursor := by simp [placeLine]
@[simp] theorem placeLine_consCursor : (placeLine row bytes s).consCursor = s.consCursor := by simp [placeLine]
@[simp] theorem placeLine_captureEnabled : (placeLine row bytes s).captureEnabled = s.captureEnabled := by simp [placeLine]
@[simp] theorem placeLine_produced : (placeLine row bytes s).produced = s.produced := by simp [placeLine]
@[simp] theorem placeLine_consumed : (placeLine row bytes s).consumed = s.consumed := by simp [placeLine]
@[simp] theorem placeLine_overrun : (placeLine row bytes s).overrun = s.overrun := by simp [placeLine]
@[simp] theorem placeLine_pstate : (placeLine row bytes s).pstate = s.pstate := by simp [placeLine]
@[simp] theorem placeLine_frameLocked : (placeLine row bytes s).frameLocked = s.frameLocked := by simp [placeLine]
@[simp] theorem placeLine_lineBuf : (placeLine row bytes s).lineBuf = s.lineBuf := by simp [placeLine]
@[simp] theorem placeLine_lineCount : (placeLine row bytes s).lineCount = s.lineCount := by simp [placeLine]
@[simp] theorem placeLine_rowAddr : (placeLine row bytes s).rowAddr = s.rowAddr := by simp [placeLine]
@[simp] theorem placeLine_gapRemaining : (placeLine row bytes s).gapRemaining = s.gapRemaining := by simp [placeLine]
@[simp] theorem placeLine_active : (placeLine row bytes s).active = s.active := by simp [placeLine]
@[simp] theorem placeLine_pending : (placeLine row bytes s).pending = s.pending := by simp [placeLine]
@[simp] theorem placeLine_prevRow : (placeLine row bytes s).prevRow = s.prevRow := by simp [placeLine]
@[simp] theorem placeLine_frameId : (placeLine row bytes s).frameId = s.frameId := by simp [placeLine]
@[simp] theorem placeLine_hdr : (placeLine row bytes s).hdr = s.hdr := by simp [placeLine]
@[simp] theorem placeLine_sendCursor : (placeLine row bytes s).sendCursor = s.sendCursor := by simp [placeLine]
@[simp] theorem placeLine_stats : (placeLine row bytes s).stats = s.stats := by simp [placeLine]
@[simp] theorem placeLine_terminal : (placeLine row bytes s).terminal = s.terminal := by simp [placeLine]
@[simp] theorem placeLine_cmdQueue : (placeLine row bytes s).cmdQueue = s.cmdQueue := by simp [placeLine]
@[simp] theorem placeLine_history : (placeLine row bytes s).history = s.history := by simp [placeLine]
@[simp] theorem placeLine_booting : (placeLine row bytes s).booting = s.booting := by simp [placeLine]
@[simp] theorem placeLine_agenda : (placeLine row bytes s).agenda = s.agenda := by simp [placeLine]
@[simp] theorem placeLine_draws : (placeLine row bytes s).draws = s.draws := by simp [placeLine]
@[simp] theorem placeLine_desc : (placeLine row bytes s).desc = s.desc := by simp [State.desc]

end placeLine

/-- PLACE writes the active buffer only (R178). -/
theorem buffer_placeLine (j : BufferId) (row : Byte) (bytes : List Byte) (s : State) :
    buffer (placeLine row bytes s) j =
      if j = s.active then Memory.writeBytes (buffer s s.active) (row.toNat * s.desc.width) bytes
      else buffer s j := by
  rw [placeLine, buffer_markPlaced, buffer_bufWriteBytes]

/-- The bookkeeping of PLACE for a row new to the frame (R179). -/
theorem placeLine_new {row : Byte} {s : State} (bytes : List Byte) (h : isPlaced s row.toNat = false) :
    (placeLine row bytes s).placed = placedWith s.placed row.toNat ∧
      (placeLine row bytes s).placedCount = s.placedCount + 1 := by
  have h' : s.placed.getLsbD row.toNat = false := h
  simp [placeLine, markPlaced, isPlaced, h']

section placeIfActive

variable (row : Byte) (bytes : List Byte) (s : State)

@[simp] theorem placeIfActive_cfg : (placeIfActive row bytes s).cfg = s.cfg := by unfold placeIfActive; split <;> simp
@[simp] theorem placeIfActive_variant : (placeIfActive row bytes s).variant = s.variant := by unfold placeIfActive; split <;> simp
@[simp] theorem placeIfActive_ring : (placeIfActive row bytes s).ring = s.ring := by unfold placeIfActive; split <;> simp
@[simp] theorem placeIfActive_prodCursor : (placeIfActive row bytes s).prodCursor = s.prodCursor := by unfold placeIfActive; split <;> simp
@[simp] theorem placeIfActive_consCursor : (placeIfActive row bytes s).consCursor = s.consCursor := by unfold placeIfActive; split <;> simp
@[simp] theorem placeIfActive_captureEnabled : (placeIfActive row bytes s).captureEnabled = s.captureEnabled := by unfold placeIfActive; split <;> simp
@[simp] theorem placeIfActive_produced : (placeIfActive row bytes s).produced = s.produced := by unfold placeIfActive; split <;> simp
@[simp] theorem placeIfActive_consumed : (placeIfActive row bytes s).consumed = s.consumed := by unfold placeIfActive; split <;> simp
@[simp] theorem placeIfActive_overrun : (placeIfActive row bytes s).overrun = s.overrun := by unfold placeIfActive; split <;> simp
@[simp] theorem placeIfActive_pstate : (placeIfActive row bytes s).pstate = s.pstate := by unfold placeIfActive; split <;> simp
@[simp] theorem placeIfActive_frameLocked : (placeIfActive row bytes s).frameLocked = s.frameLocked := by unfold placeIfActive; split <;> simp
@[simp] theorem placeIfActive_lineBuf : (placeIfActive row bytes s).lineBuf = s.lineBuf := by unfold placeIfActive; split <;> simp
@[simp] theorem placeIfActive_lineCount : (placeIfActive row bytes s).lineCount = s.lineCount := by unfold placeIfActive; split <;> simp
@[simp] theorem placeIfActive_rowAddr : (placeIfActive row bytes s).rowAddr = s.rowAddr := by unfold placeIfActive; split <;> simp
@[simp] theorem placeIfActive_gapRemaining : (placeIfActive row bytes s).gapRemaining = s.gapRemaining := by unfold placeIfActive; split <;> simp
@[simp] theorem placeIfActive_active : (placeIfActive row bytes s).active = s.active := by unfold placeIfActive; split <;> simp
@[simp] theorem placeIfActive_pending : (placeIfActive row bytes s).pending = s.pending := by unfold placeIfActive; split <;> simp
@[simp] theorem placeIfActive_prevRow : (placeIfActive row bytes s).prevRow = s.prevRow := by unfold placeIfActive; split <;> simp
@[simp] theorem placeIfActive_frameId : (placeIfActive row bytes s).frameId = s.frameId := by unfold placeIfActive; split <;> simp
@[simp] theorem placeIfActive_hdr : (placeIfActive row bytes s).hdr = s.hdr := by unfold placeIfActive; split <;> simp
@[simp] theorem placeIfActive_sendCursor : (placeIfActive row bytes s).sendCursor = s.sendCursor := by unfold placeIfActive; split <;> simp
@[simp] theorem placeIfActive_stats : (placeIfActive row bytes s).stats = s.stats := by unfold placeIfActive; split <;> simp
@[simp] theorem placeIfActive_terminal : (placeIfActive row bytes s).terminal = s.terminal := by unfold placeIfActive; split <;> simp
@[simp] theorem placeIfActive_cmdQueue : (placeIfActive row bytes s).cmdQueue = s.cmdQueue := by unfold placeIfActive; split <;> simp
@[simp] theorem placeIfActive_history : (placeIfActive row bytes s).history = s.history := by unfold placeIfActive; split <;> simp
@[simp] theorem placeIfActive_booting : (placeIfActive row bytes s).booting = s.booting := by unfold placeIfActive; split <;> simp
@[simp] theorem placeIfActive_agenda : (placeIfActive row bytes s).agenda = s.agenda := by unfold placeIfActive; split <;> simp
@[simp] theorem placeIfActive_draws : (placeIfActive row bytes s).draws = s.draws := by unfold placeIfActive; split <;> simp
@[simp] theorem placeIfActive_desc : (placeIfActive row bytes s).desc = s.desc := by simp [State.desc]

end placeIfActive

section boundaryDrop

variable (s : State)

@[simp] theorem boundaryDrop_cfg : (boundaryDrop s).cfg = s.cfg := by simp [boundaryDrop]
@[simp] theorem boundaryDrop_variant : (boundaryDrop s).variant = s.variant := by simp [boundaryDrop]
@[simp] theorem boundaryDrop_ring : (boundaryDrop s).ring = s.ring := by simp [boundaryDrop]
@[simp] theorem boundaryDrop_prodCursor : (boundaryDrop s).prodCursor = s.prodCursor := by simp [boundaryDrop]
@[simp] theorem boundaryDrop_consCursor : (boundaryDrop s).consCursor = s.consCursor := by simp [boundaryDrop]
@[simp] theorem boundaryDrop_captureEnabled : (boundaryDrop s).captureEnabled = s.captureEnabled := by simp [boundaryDrop]
@[simp] theorem boundaryDrop_produced : (boundaryDrop s).produced = s.produced := by simp [boundaryDrop]
@[simp] theorem boundaryDrop_consumed : (boundaryDrop s).consumed = s.consumed := by simp [boundaryDrop]
@[simp] theorem boundaryDrop_overrun : (boundaryDrop s).overrun = s.overrun := by simp [boundaryDrop]
@[simp] theorem boundaryDrop_pstate : (boundaryDrop s).pstate = s.pstate := by simp [boundaryDrop]
@[simp] theorem boundaryDrop_frameLocked : (boundaryDrop s).frameLocked = s.frameLocked := by simp [boundaryDrop]
@[simp] theorem boundaryDrop_lineBuf : (boundaryDrop s).lineBuf = s.lineBuf := by simp [boundaryDrop]
@[simp] theorem boundaryDrop_lineCount : (boundaryDrop s).lineCount = s.lineCount := by simp [boundaryDrop]
@[simp] theorem boundaryDrop_rowAddr : (boundaryDrop s).rowAddr = s.rowAddr := by simp [boundaryDrop]
@[simp] theorem boundaryDrop_gapRemaining : (boundaryDrop s).gapRemaining = s.gapRemaining := by simp [boundaryDrop]
@[simp] theorem boundaryDrop_active : (boundaryDrop s).active = s.active := by simp [boundaryDrop]
@[simp] theorem boundaryDrop_pending : (boundaryDrop s).pending = s.pending := by simp [boundaryDrop]
@[simp] theorem boundaryDrop_placed : (boundaryDrop s).placed = 0 := by simp [boundaryDrop]
@[simp] theorem boundaryDrop_placedCount : (boundaryDrop s).placedCount = 0 := by simp [boundaryDrop]
@[simp] theorem boundaryDrop_prevRow : (boundaryDrop s).prevRow = s.prevRow := by simp [boundaryDrop]
@[simp] theorem boundaryDrop_frameId : (boundaryDrop s).frameId = s.frameId := by simp [boundaryDrop]
@[simp] theorem boundaryDrop_hdr : (boundaryDrop s).hdr = s.hdr := by simp [boundaryDrop]
@[simp] theorem boundaryDrop_sendCursor : (boundaryDrop s).sendCursor = s.sendCursor := by simp [boundaryDrop]
@[simp] theorem boundaryDrop_stats : (boundaryDrop s).stats = { s.stats with framesDropped := s.stats.framesDropped + 1 } := by simp [boundaryDrop]
@[simp] theorem boundaryDrop_terminal : (boundaryDrop s).terminal = s.terminal := by simp [boundaryDrop]
@[simp] theorem boundaryDrop_cmdQueue : (boundaryDrop s).cmdQueue = s.cmdQueue := by simp [boundaryDrop]
@[simp] theorem boundaryDrop_history : (boundaryDrop s).history = s.history ++ [.frameDropped s.frameId] := by simp [boundaryDrop]
@[simp] theorem boundaryDrop_booting : (boundaryDrop s).booting = s.booting := by simp [boundaryDrop]
@[simp] theorem boundaryDrop_agenda : (boundaryDrop s).agenda = s.agenda := by simp [boundaryDrop]
@[simp] theorem boundaryDrop_draws : (boundaryDrop s).draws = s.draws := by simp [boundaryDrop]
@[simp] theorem boundaryDrop_desc : (boundaryDrop s).desc = s.desc := by simp [State.desc]

end boundaryDrop

/-- The drop clears the active buffer and leaves the other (R174, R177). -/
theorem buffer_boundaryDrop (j : BufferId) (s : State) :
    buffer (boundaryDrop s) j =
      if j = s.active then Memory.clearBelow s.desc.frameSize (buffer s s.active) else buffer s j := by
  simp [boundaryDrop, buffer_activate]

section boundaryHandoff

variable (s : State)

@[simp] theorem boundaryHandoff_cfg : (boundaryHandoff s).cfg = s.cfg := by simp [boundaryHandoff]
@[simp] theorem boundaryHandoff_variant : (boundaryHandoff s).variant = s.variant := by simp [boundaryHandoff]
@[simp] theorem boundaryHandoff_ring : (boundaryHandoff s).ring = s.ring := by simp [boundaryHandoff]
@[simp] theorem boundaryHandoff_prodCursor : (boundaryHandoff s).prodCursor = s.prodCursor := by simp [boundaryHandoff]
@[simp] theorem boundaryHandoff_consCursor : (boundaryHandoff s).consCursor = s.consCursor := by simp [boundaryHandoff]
@[simp] theorem boundaryHandoff_captureEnabled : (boundaryHandoff s).captureEnabled = s.captureEnabled := by simp [boundaryHandoff]
@[simp] theorem boundaryHandoff_produced : (boundaryHandoff s).produced = s.produced := by simp [boundaryHandoff]
@[simp] theorem boundaryHandoff_consumed : (boundaryHandoff s).consumed = s.consumed := by simp [boundaryHandoff]
@[simp] theorem boundaryHandoff_overrun : (boundaryHandoff s).overrun = s.overrun := by simp [boundaryHandoff]
@[simp] theorem boundaryHandoff_pstate : (boundaryHandoff s).pstate = s.pstate := by simp [boundaryHandoff]
@[simp] theorem boundaryHandoff_frameLocked : (boundaryHandoff s).frameLocked = s.frameLocked := by simp [boundaryHandoff]
@[simp] theorem boundaryHandoff_lineBuf : (boundaryHandoff s).lineBuf = s.lineBuf := by simp [boundaryHandoff]
@[simp] theorem boundaryHandoff_lineCount : (boundaryHandoff s).lineCount = s.lineCount := by simp [boundaryHandoff]
@[simp] theorem boundaryHandoff_rowAddr : (boundaryHandoff s).rowAddr = s.rowAddr := by simp [boundaryHandoff]
@[simp] theorem boundaryHandoff_gapRemaining : (boundaryHandoff s).gapRemaining = s.gapRemaining := by simp [boundaryHandoff]
@[simp] theorem boundaryHandoff_active : (boundaryHandoff s).active = s.active.other := by simp [boundaryHandoff]
@[simp] theorem boundaryHandoff_pending : (boundaryHandoff s).pending = true := by simp [boundaryHandoff]
@[simp] theorem boundaryHandoff_placed : (boundaryHandoff s).placed = 0 := by simp [boundaryHandoff]
@[simp] theorem boundaryHandoff_placedCount : (boundaryHandoff s).placedCount = 0 := by simp [boundaryHandoff]
@[simp] theorem boundaryHandoff_prevRow : (boundaryHandoff s).prevRow = s.prevRow := by simp [boundaryHandoff]
@[simp] theorem boundaryHandoff_frameId : (boundaryHandoff s).frameId = s.frameId := by simp [boundaryHandoff]
@[simp] theorem boundaryHandoff_hdr : (boundaryHandoff s).hdr = headerBytes s.cfg s.desc s.frameId := by simp [boundaryHandoff]
@[simp] theorem boundaryHandoff_sendCursor : (boundaryHandoff s).sendCursor = 0 := by simp [boundaryHandoff]
@[simp] theorem boundaryHandoff_stats : (boundaryHandoff s).stats = { s.stats with framesSent := s.stats.framesSent + 1 } := by simp [boundaryHandoff]
@[simp] theorem boundaryHandoff_terminal : (boundaryHandoff s).terminal = s.terminal := by simp [boundaryHandoff]
@[simp] theorem boundaryHandoff_cmdQueue : (boundaryHandoff s).cmdQueue = s.cmdQueue := by simp [boundaryHandoff]
@[simp] theorem boundaryHandoff_history : (boundaryHandoff s).history = s.history := by simp [boundaryHandoff]
@[simp] theorem boundaryHandoff_booting : (boundaryHandoff s).booting = s.booting := by simp [boundaryHandoff]
@[simp] theorem boundaryHandoff_agenda : (boundaryHandoff s).agenda = s.agenda := by simp [boundaryHandoff]
@[simp] theorem boundaryHandoff_draws : (boundaryHandoff s).draws = s.draws := by simp [boundaryHandoff]
@[simp] theorem boundaryHandoff_desc : (boundaryHandoff s).desc = s.desc := by simp [State.desc]

end boundaryHandoff

/-- The handoff clears the new active buffer and leaves the completed one (R175, R177). -/
theorem buffer_boundaryHandoff (j : BufferId) (s : State) :
    buffer (boundaryHandoff s) j =
      if j = s.active.other then Memory.clearBelow s.desc.frameSize (buffer s s.active.other)
      else buffer s j := by
  simp [boundaryHandoff, buffer_activate]

section boundary

variable (s : State)

@[simp] theorem boundary_cfg : (boundary s).cfg = s.cfg := by unfold boundary; split <;> simp
@[simp] theorem boundary_variant : (boundary s).variant = s.variant := by unfold boundary; split <;> simp
@[simp] theorem boundary_ring : (boundary s).ring = s.ring := by unfold boundary; split <;> simp
@[simp] theorem boundary_prodCursor : (boundary s).prodCursor = s.prodCursor := by unfold boundary; split <;> simp
@[simp] theorem boundary_consCursor : (boundary s).consCursor = s.consCursor := by unfold boundary; split <;> simp
@[simp] theorem boundary_captureEnabled : (boundary s).captureEnabled = s.captureEnabled := by unfold boundary; split <;> simp
@[simp] theorem boundary_produced : (boundary s).produced = s.produced := by unfold boundary; split <;> simp
@[simp] theorem boundary_consumed : (boundary s).consumed = s.consumed := by unfold boundary; split <;> simp
@[simp] theorem boundary_overrun : (boundary s).overrun = s.overrun := by unfold boundary; split <;> simp
@[simp] theorem boundary_pstate : (boundary s).pstate = s.pstate := by unfold boundary; split <;> simp
@[simp] theorem boundary_frameLocked : (boundary s).frameLocked = s.frameLocked := by unfold boundary; split <;> simp
@[simp] theorem boundary_lineBuf : (boundary s).lineBuf = s.lineBuf := by unfold boundary; split <;> simp
@[simp] theorem boundary_lineCount : (boundary s).lineCount = s.lineCount := by unfold boundary; split <;> simp
@[simp] theorem boundary_rowAddr : (boundary s).rowAddr = s.rowAddr := by unfold boundary; split <;> simp
@[simp] theorem boundary_gapRemaining : (boundary s).gapRemaining = s.gapRemaining := by unfold boundary; split <;> simp
@[simp] theorem boundary_pending : (boundary s).pending = true := by unfold boundary; split <;> simp_all
@[simp] theorem boundary_placed : (boundary s).placed = 0 := by unfold boundary; split <;> simp
@[simp] theorem boundary_placedCount : (boundary s).placedCount = 0 := by unfold boundary; split <;> simp
@[simp] theorem boundary_prevRow : (boundary s).prevRow = s.prevRow := by unfold boundary; split <;> simp
@[simp] theorem boundary_frameId : (boundary s).frameId = s.frameId + 1 := by unfold boundary; split <;> simp
@[simp] theorem boundary_terminal : (boundary s).terminal = s.terminal := by unfold boundary; split <;> simp
@[simp] theorem boundary_cmdQueue : (boundary s).cmdQueue = s.cmdQueue := by unfold boundary; split <;> simp
@[simp] theorem boundary_booting : (boundary s).booting = s.booting := by unfold boundary; split <;> simp
@[simp] theorem boundary_agenda : (boundary s).agenda = s.agenda := by unfold boundary; split <;> simp
@[simp] theorem boundary_draws : (boundary s).draws = s.draws := by unfold boundary; split <;> simp
@[simp] theorem boundary_desc : (boundary s).desc = s.desc := by simp [State.desc]

end boundary

/-- A boundary is the drop where the slot is occupied (R174). -/
theorem boundary_of_pending {s : State} (h : s.pending = true) :
    boundary s = boundaryDrop (nextFrameId s) := by simp [boundary, h]

/-- A boundary is the handoff where the slot is free (R175). -/
theorem boundary_of_free {s : State} (h : s.pending = false) :
    boundary s = boundaryHandoff (nextFrameId s) := by simp [boundary, h]

section handleLine

variable (row : Byte) (bytes : List Byte) (s : State)

@[simp] theorem handleLine_cfg : (handleLine row bytes s).cfg = s.cfg := by unfold handleLine; split <;> simp
@[simp] theorem handleLine_variant : (handleLine row bytes s).variant = s.variant := by unfold handleLine; split <;> simp
@[simp] theorem handleLine_ring : (handleLine row bytes s).ring = s.ring := by unfold handleLine; split <;> simp
@[simp] theorem handleLine_prodCursor : (handleLine row bytes s).prodCursor = s.prodCursor := by unfold handleLine; split <;> simp
@[simp] theorem handleLine_consCursor : (handleLine row bytes s).consCursor = s.consCursor := by unfold handleLine; split <;> simp
@[simp] theorem handleLine_captureEnabled : (handleLine row bytes s).captureEnabled = s.captureEnabled := by unfold handleLine; split <;> simp
@[simp] theorem handleLine_produced : (handleLine row bytes s).produced = s.produced := by unfold handleLine; split <;> simp
@[simp] theorem handleLine_consumed : (handleLine row bytes s).consumed = s.consumed := by unfold handleLine; split <;> simp
@[simp] theorem handleLine_overrun : (handleLine row bytes s).overrun = s.overrun := by unfold handleLine; split <;> simp
@[simp] theorem handleLine_pstate : (handleLine row bytes s).pstate = s.pstate := by unfold handleLine; split <;> simp
@[simp] theorem handleLine_frameLocked : (handleLine row bytes s).frameLocked = s.frameLocked := by unfold handleLine; split <;> simp
@[simp] theorem handleLine_lineBuf : (handleLine row bytes s).lineBuf = s.lineBuf := by unfold handleLine; split <;> simp
@[simp] theorem handleLine_lineCount : (handleLine row bytes s).lineCount = s.lineCount := by unfold handleLine; split <;> simp
@[simp] theorem handleLine_rowAddr : (handleLine row bytes s).rowAddr = s.rowAddr := by unfold handleLine; split <;> simp
@[simp] theorem handleLine_gapRemaining : (handleLine row bytes s).gapRemaining = s.gapRemaining := by unfold handleLine; split <;> simp
@[simp] theorem handleLine_prevRow : (handleLine row bytes s).prevRow = row := rfl
@[simp] theorem handleLine_terminal : (handleLine row bytes s).terminal = s.terminal := by unfold handleLine; split <;> simp
@[simp] theorem handleLine_cmdQueue : (handleLine row bytes s).cmdQueue = s.cmdQueue := by unfold handleLine; split <;> simp
@[simp] theorem handleLine_booting : (handleLine row bytes s).booting = s.booting := by unfold handleLine; split <;> simp
@[simp] theorem handleLine_agenda : (handleLine row bytes s).agenda = s.agenda := by unfold handleLine; split <;> simp
@[simp] theorem handleLine_draws : (handleLine row bytes s).draws = s.draws := by unfold handleLine; split <;> simp
@[simp] theorem handleLine_desc : (handleLine row bytes s).desc = s.desc := by simp [State.desc]

end handleLine

section handleLine

variable (row : Byte) (bytes : List Byte) (s : State)

@[simp] theorem handleLine_bytesForwarded : (handleLine row bytes s).stats.bytesForwarded = s.stats.bytesForwarded := by
  unfold handleLine boundary; split <;> (try split) <;> simp
@[simp] theorem handleLine_crcOk : (handleLine row bytes s).stats.crcOk = s.stats.crcOk := by
  unfold handleLine boundary; split <;> (try split) <;> simp
@[simp] theorem handleLine_crcErr : (handleLine row bytes s).stats.crcErr = s.stats.crcErr := by
  unfold handleLine boundary; split <;> (try split) <;> simp
@[simp] theorem handleLine_gapBytes : (handleLine row bytes s).stats.gapBytes = s.stats.gapBytes := by
  unfold handleLine boundary; split <;> (try split) <;> simp
@[simp] theorem handleLine_resync : (handleLine row bytes s).stats.resync = s.stats.resync := by
  unfold handleLine boundary; split <;> (try split) <;> simp
@[simp] theorem handleLine_peakOccupancy : (handleLine row bytes s).stats.peakOccupancy = s.stats.peakOccupancy := by
  unfold handleLine boundary; split <;> (try split) <;> simp

end handleLine

/-- HANDLE_LINE of a line that makes no boundary (R171, R172). -/
theorem handleLine_of_no_boundary {row : Byte} {s : State} (bytes : List Byte)
    (h : isBoundary s row = false) :
    handleLine row bytes s = setPrevRow row (placeIfActive row bytes s) := by simp [handleLine, h]

/-- HANDLE_LINE of a line that makes a boundary goes on from the state the boundary leaves (R171). -/
theorem handleLine_of_boundary {row : Byte} {s : State} (bytes : List Byte)
    (h : isBoundary s row = true) :
    handleLine row bytes s = setPrevRow row (placeIfActive row bytes (boundary s)) := by
  simp [handleLine, h]

/-- After a boundary no line makes another (R172). -/
@[simp] theorem isBoundary_boundary (row : Byte) (s : State) : isBoundary (boundary s) row = false := by
  simp [isBoundary]

/-- Once the slot is occupied, HANDLE_LINE leaves it so, with its frame, header and cursor (R183). -/
theorem handleLine_pending {row : Byte} {bytes : List Byte} {s : State} (h : s.pending = true) :
    (handleLine row bytes s).pending = true ∧ (handleLine row bytes s).active = s.active ∧
      (handleLine row bytes s).hdr = s.hdr ∧ (handleLine row bytes s).sendCursor = s.sendCursor ∧
      buffer (handleLine row bytes s) s.active.other = buffer s s.active.other := by
  have hp : ∀ u : State, buffer (placeIfActive row bytes u) u.active.other = buffer u u.active.other := by
    intro u
    unfold placeIfActive
    split
    · simp [buffer_placeLine]
    · rfl
  unfold handleLine
  split
  · have hd := hp (boundary s)
    rw [boundary_of_pending h] at hd ⊢
    simp only [boundaryDrop_active, nextFrameId_active] at hd
    simp [h, hd, buffer_boundaryDrop]
  · simp [h, hp]

/-- `placed[i]` after `placed[r] <- 1` (R179). -/
theorem getLsbD_placedWith (p : BitVec 256) (r i : Nat) (hr : r < 256) :
    (placedWith p r).getLsbD i = (p.getLsbD i || decide (i = r)) := by
  unfold placedWith
  rw [BitVec.getLsbD_or, BitVec.getLsbD_twoPow]
  by_cases h : i = r
  · subst h; simp [hr]
  · simp [h, Ne.symm h]

@[simp] theorem placedBelow_zero (h : Nat) : placedBelow 0 h = 0 := by
  induction h with
  | zero => rfl
  | succ n ih => rw [placedBelow, ih]; simp

/-- Placing a new row below `h` adds one to the count of R47. -/
theorem placedBelow_with (p : BitVec 256) (r h : Nat) (hr : r < 256) (hp : p.getLsbD r = false) :
    placedBelow (placedWith p r) h = placedBelow p h + (if r < h then 1 else 0) := by
  induction h with
  | zero => rfl
  | succ n ih =>
    simp only [placedBelow, ih, getLsbD_placedWith _ _ _ hr]
    by_cases h1 : n = r
    · subst h1; simp [hp]
    · by_cases h2 : r < n
      · have : r < n + 1 := by omega
        simp [h1, h2, this]; omega
      · have : ¬ r < n + 1 := by omega
        simp [h1, h2, this]

/-- Where the count of R47 is 0, no row is placed. -/
theorem placedBelow_eq_zero {p : BitVec 256} {h r : Nat} (hz : placedBelow p h = 0) (hr : r < h) :
    p.getLsbD r = false := by
  induction h with
  | zero => omega
  | succ n ih =>
    simp only [placedBelow] at hz
    by_cases h1 : r = n
    · subst h1; cases hh : p.getLsbD r <;> simp_all
    · exact ih (by omega) (by omega)

end Sys2Proof.Machine
end

