-- ==== Sys2Proof/Laws/Parser.lean ====
section
/-! SUPPORT. What PARSE leaves: the ring, the producer's state, the mode controller and HOST (R61); and
the pending frame (R183). -/

namespace Sys2Proof.Machine

section accumulate

variable (b : Byte) (s : State)

@[simp] theorem accumulate_cfg : (accumulate b s).cfg = s.cfg := rfl
@[simp] theorem accumulate_variant : (accumulate b s).variant = s.variant := rfl
@[simp] theorem accumulate_ring : (accumulate b s).ring = s.ring := rfl
@[simp] theorem accumulate_prodCursor : (accumulate b s).prodCursor = s.prodCursor := rfl
@[simp] theorem accumulate_consCursor : (accumulate b s).consCursor = s.consCursor := rfl
@[simp] theorem accumulate_captureEnabled : (accumulate b s).captureEnabled = s.captureEnabled := rfl
@[simp] theorem accumulate_produced : (accumulate b s).produced = s.produced := rfl
@[simp] theorem accumulate_consumed : (accumulate b s).consumed = s.consumed := rfl
@[simp] theorem accumulate_overrun : (accumulate b s).overrun = s.overrun := rfl
@[simp] theorem accumulate_pstate : (accumulate b s).pstate = s.pstate := rfl
@[simp] theorem accumulate_frameLocked : (accumulate b s).frameLocked = s.frameLocked := rfl
@[simp] theorem accumulate_lineBuf : (accumulate b s).lineBuf = Memory.write s.lineBuf s.lineCount b := rfl
@[simp] theorem accumulate_lineCount : (accumulate b s).lineCount = s.lineCount + 1 := rfl
@[simp] theorem accumulate_rowAddr : (accumulate b s).rowAddr = s.rowAddr := rfl
@[simp] theorem accumulate_gapRemaining : (accumulate b s).gapRemaining = s.gapRemaining := rfl
@[simp] theorem accumulate_bufPing : (accumulate b s).bufPing = s.bufPing := rfl
@[simp] theorem accumulate_bufPong : (accumulate b s).bufPong = s.bufPong := rfl
@[simp] theorem accumulate_active : (accumulate b s).active = s.active := rfl
@[simp] theorem accumulate_pending : (accumulate b s).pending = s.pending := rfl
@[simp] theorem accumulate_placed : (accumulate b s).placed = s.placed := rfl
@[simp] theorem accumulate_placedCount : (accumulate b s).placedCount = s.placedCount := rfl
@[simp] theorem accumulate_prevRow : (accumulate b s).prevRow = s.prevRow := rfl
@[simp] theorem accumulate_frameId : (accumulate b s).frameId = s.frameId := rfl
@[simp] theorem accumulate_hdr : (accumulate b s).hdr = s.hdr := rfl
@[simp] theorem accumulate_sendCursor : (accumulate b s).sendCursor = s.sendCursor := rfl
@[simp] theorem accumulate_stats : (accumulate b s).stats = s.stats := rfl
@[simp] theorem accumulate_terminal : (accumulate b s).terminal = s.terminal := rfl
@[simp] theorem accumulate_cmdQueue : (accumulate b s).cmdQueue = s.cmdQueue := rfl
@[simp] theorem accumulate_history : (accumulate b s).history = s.history := rfl
@[simp] theorem accumulate_booting : (accumulate b s).booting = s.booting := rfl
@[simp] theorem accumulate_agenda : (accumulate b s).agenda = s.agenda := rfl
@[simp] theorem accumulate_draws : (accumulate b s).draws = s.draws := rfl
@[simp] theorem accumulate_desc : (accumulate b s).desc = s.desc := rfl

end accumulate

section rowCheck

variable (s : State)

@[simp] theorem rowCheck_cfg : (rowCheck s).cfg = s.cfg := by
  unfold rowCheck rowAccepted rowLocked rowFalseSync rowFallback; repeat' split
  all_goals simp
@[simp] theorem rowCheck_variant : (rowCheck s).variant = s.variant := by
  unfold rowCheck rowAccepted rowLocked rowFalseSync rowFallback; repeat' split
  all_goals simp
@[simp] theorem rowCheck_ring : (rowCheck s).ring = s.ring := by
  unfold rowCheck rowAccepted rowLocked rowFalseSync rowFallback; repeat' split
  all_goals simp
@[simp] theorem rowCheck_prodCursor : (rowCheck s).prodCursor = s.prodCursor := by
  unfold rowCheck rowAccepted rowLocked rowFalseSync rowFallback; repeat' split
  all_goals simp
@[simp] theorem rowCheck_consCursor : (rowCheck s).consCursor = s.consCursor := by
  unfold rowCheck rowAccepted rowLocked rowFalseSync rowFallback; repeat' split
  all_goals simp
@[simp] theorem rowCheck_captureEnabled : (rowCheck s).captureEnabled = s.captureEnabled := by
  unfold rowCheck rowAccepted rowLocked rowFalseSync rowFallback; repeat' split
  all_goals simp
@[simp] theorem rowCheck_produced : (rowCheck s).produced = s.produced := by
  unfold rowCheck rowAccepted rowLocked rowFalseSync rowFallback; repeat' split
  all_goals simp
@[simp] theorem rowCheck_consumed : (rowCheck s).consumed = s.consumed := by
  unfold rowCheck rowAccepted rowLocked rowFalseSync rowFallback; repeat' split
  all_goals simp
@[simp] theorem rowCheck_overrun : (rowCheck s).overrun = s.overrun := by
  unfold rowCheck rowAccepted rowLocked rowFalseSync rowFallback; repeat' split
  all_goals simp
@[simp] theorem rowCheck_frameLocked : (rowCheck s).frameLocked = s.frameLocked := by
  unfold rowCheck rowAccepted rowLocked rowFalseSync rowFallback; repeat' split
  all_goals simp
@[simp] theorem rowCheck_bufPing : (rowCheck s).bufPing = s.bufPing := by
  unfold rowCheck rowAccepted rowLocked rowFalseSync rowFallback; repeat' split
  all_goals simp
@[simp] theorem rowCheck_bufPong : (rowCheck s).bufPong = s.bufPong := by
  unfold rowCheck rowAccepted rowLocked rowFalseSync rowFallback; repeat' split
  all_goals simp
@[simp] theorem rowCheck_active : (rowCheck s).active = s.active := by
  unfold rowCheck rowAccepted rowLocked rowFalseSync rowFallback; repeat' split
  all_goals simp
@[simp] theorem rowCheck_pending : (rowCheck s).pending = s.pending := by
  unfold rowCheck rowAccepted rowLocked rowFalseSync rowFallback; repeat' split
  all_goals simp
@[simp] theorem rowCheck_placed : (rowCheck s).placed = s.placed := by
  unfold rowCheck rowAccepted rowLocked rowFalseSync rowFallback; repeat' split
  all_goals simp
@[simp] theorem rowCheck_placedCount : (rowCheck s).placedCount = s.placedCount := by
  unfold rowCheck rowAccepted rowLocked rowFalseSync rowFallback; repeat' split
  all_goals simp
@[simp] theorem rowCheck_prevRow : (rowCheck s).prevRow = s.prevRow := by
  unfold rowCheck rowAccepted rowLocked rowFalseSync rowFallback; repeat' split
  all_goals simp
@[simp] theorem rowCheck_frameId : (rowCheck s).frameId = s.frameId := by
  unfold rowCheck rowAccepted rowLocked rowFalseSync rowFallback; repeat' split
  all_goals simp
@[simp] theorem rowCheck_hdr : (rowCheck s).hdr = s.hdr := by
  unfold rowCheck rowAccepted rowLocked rowFalseSync rowFallback; repeat' split
  all_goals simp
@[simp] theorem rowCheck_sendCursor : (rowCheck s).sendCursor = s.sendCursor := by
  unfold rowCheck rowAccepted rowLocked rowFalseSync rowFallback; repeat' split
  all_goals simp
@[simp] theorem rowCheck_stats : (rowCheck s).stats = s.stats := by
  unfold rowCheck rowAccepted rowLocked rowFalseSync rowFallback; repeat' split
  all_goals simp
@[simp] theorem rowCheck_terminal : (rowCheck s).terminal = s.terminal := by
  unfold rowCheck rowAccepted rowLocked rowFalseSync rowFallback; repeat' split
  all_goals simp
@[simp] theorem rowCheck_cmdQueue : (rowCheck s).cmdQueue = s.cmdQueue := by
  unfold rowCheck rowAccepted rowLocked rowFalseSync rowFallback; repeat' split
  all_goals simp
@[simp] theorem rowCheck_booting : (rowCheck s).booting = s.booting := by
  unfold rowCheck rowAccepted rowLocked rowFalseSync rowFallback; repeat' split
  all_goals simp
@[simp] theorem rowCheck_agenda : (rowCheck s).agenda = s.agenda := by
  unfold rowCheck rowAccepted rowLocked rowFalseSync rowFallback; repeat' split
  all_goals simp
@[simp] theorem rowCheck_draws : (rowCheck s).draws = s.draws := by
  unfold rowCheck rowAccepted rowLocked rowFalseSync rowFallback; repeat' split
  all_goals simp
@[simp] theorem rowCheck_desc : (rowCheck s).desc = s.desc := by simp [State.desc]

end rowCheck

section complete

variable (s : State)

@[simp] theorem complete_cfg : (complete s).cfg = s.cfg := by
  unfold complete crcMatch crcMismatch; split <;> simp
@[simp] theorem complete_variant : (complete s).variant = s.variant := by
  unfold complete crcMatch crcMismatch; split <;> simp
@[simp] theorem complete_ring : (complete s).ring = s.ring := by
  unfold complete crcMatch crcMismatch; split <;> simp
@[simp] theorem complete_prodCursor : (complete s).prodCursor = s.prodCursor := by
  unfold complete crcMatch crcMismatch; split <;> simp
@[simp] theorem complete_consCursor : (complete s).consCursor = s.consCursor := by
  unfold complete crcMatch crcMismatch; split <;> simp
@[simp] theorem complete_captureEnabled : (complete s).captureEnabled = s.captureEnabled := by
  unfold complete crcMatch crcMismatch; split <;> simp
@[simp] theorem complete_produced : (complete s).produced = s.produced := by
  unfold complete crcMatch crcMismatch; split <;> simp
@[simp] theorem complete_consumed : (complete s).consumed = s.consumed := by
  unfold complete crcMatch crcMismatch; split <;> simp
@[simp] theorem complete_overrun : (complete s).overrun = s.overrun := by
  unfold complete crcMatch crcMismatch; split <;> simp
@[simp] theorem complete_terminal : (complete s).terminal = s.terminal := by
  unfold complete crcMatch crcMismatch; split <;> simp
@[simp] theorem complete_cmdQueue : (complete s).cmdQueue = s.cmdQueue := by
  unfold complete crcMatch crcMismatch; split <;> simp
@[simp] theorem complete_booting : (complete s).booting = s.booting := by
  unfold complete crcMatch crcMismatch; split <;> simp
@[simp] theorem complete_agenda : (complete s).agenda = s.agenda := by
  unfold complete crcMatch crcMismatch; split <;> simp
@[simp] theorem complete_draws : (complete s).draws = s.draws := by
  unfold complete crcMatch crcMismatch; split <;> simp
@[simp] theorem complete_desc : (complete s).desc = s.desc := by simp [State.desc]

end complete

section parseRl

variable (b : Byte) (s : State)

@[simp] theorem parseRl_cfg : (parseRl b s).cfg = s.cfg := by
  unfold parseRl; dsimp only; split <;> (try split) <;> simp
@[simp] theorem parseRl_variant : (parseRl b s).variant = s.variant := by
  unfold parseRl; dsimp only; split <;> (try split) <;> simp
@[simp] theorem parseRl_ring : (parseRl b s).ring = s.ring := by
  unfold parseRl; dsimp only; split <;> (try split) <;> simp
@[simp] theorem parseRl_prodCursor : (parseRl b s).prodCursor = s.prodCursor := by
  unfold parseRl; dsimp only; split <;> (try split) <;> simp
@[simp] theorem parseRl_consCursor : (parseRl b s).consCursor = s.consCursor := by
  unfold parseRl; dsimp only; split <;> (try split) <;> simp
@[simp] theorem parseRl_captureEnabled : (parseRl b s).captureEnabled = s.captureEnabled := by
  unfold parseRl; dsimp only; split <;> (try split) <;> simp
@[simp] theorem parseRl_produced : (parseRl b s).produced = s.produced := by
  unfold parseRl; dsimp only; split <;> (try split) <;> simp
@[simp] theorem parseRl_consumed : (parseRl b s).consumed = s.consumed := by
  unfold parseRl; dsimp only; split <;> (try split) <;> simp
@[simp] theorem parseRl_overrun : (parseRl b s).overrun = s.overrun := by
  unfold parseRl; dsimp only; split <;> (try split) <;> simp
@[simp] theorem parseRl_terminal : (parseRl b s).terminal = s.terminal := by
  unfold parseRl; dsimp only; split <;> (try split) <;> simp
@[simp] theorem parseRl_cmdQueue : (parseRl b s).cmdQueue = s.cmdQueue := by
  unfold parseRl; dsimp only; split <;> (try split) <;> simp
@[simp] theorem parseRl_booting : (parseRl b s).booting = s.booting := by
  unfold parseRl; dsimp only; split <;> (try split) <;> simp
@[simp] theorem parseRl_agenda : (parseRl b s).agenda = s.agenda := by
  unfold parseRl; dsimp only; split <;> (try split) <;> simp
@[simp] theorem parseRl_draws : (parseRl b s).draws = s.draws := by
  unfold parseRl; dsimp only; split <;> (try split) <;> simp
@[simp] theorem parseRl_desc : (parseRl b s).desc = s.desc := by simp [State.desc]

end parseRl

section parseSg

variable (b : Byte) (s : State)

@[simp] theorem parseSg_cfg : (parseSg b s).cfg = s.cfg := by
  unfold parseSg gapFill gapExhaust; split <;> (try split) <;> simp
@[simp] theorem parseSg_variant : (parseSg b s).variant = s.variant := by
  unfold parseSg gapFill gapExhaust; split <;> (try split) <;> simp
@[simp] theorem parseSg_ring : (parseSg b s).ring = s.ring := by
  unfold parseSg gapFill gapExhaust; split <;> (try split) <;> simp
@[simp] theorem parseSg_prodCursor : (parseSg b s).prodCursor = s.prodCursor := by
  unfold parseSg gapFill gapExhaust; split <;> (try split) <;> simp
@[simp] theorem parseSg_consCursor : (parseSg b s).consCursor = s.consCursor := by
  unfold parseSg gapFill gapExhaust; split <;> (try split) <;> simp
@[simp] theorem parseSg_captureEnabled : (parseSg b s).captureEnabled = s.captureEnabled := by
  unfold parseSg gapFill gapExhaust; split <;> (try split) <;> simp
@[simp] theorem parseSg_produced : (parseSg b s).produced = s.produced := by
  unfold parseSg gapFill gapExhaust; split <;> (try split) <;> simp
@[simp] theorem parseSg_consumed : (parseSg b s).consumed = s.consumed := by
  unfold parseSg gapFill gapExhaust; split <;> (try split) <;> simp
@[simp] theorem parseSg_overrun : (parseSg b s).overrun = s.overrun := by
  unfold parseSg gapFill gapExhaust; split <;> (try split) <;> simp
@[simp] theorem parseSg_terminal : (parseSg b s).terminal = s.terminal := by
  unfold parseSg gapFill gapExhaust; split <;> (try split) <;> simp
@[simp] theorem parseSg_cmdQueue : (parseSg b s).cmdQueue = s.cmdQueue := by
  unfold parseSg gapFill gapExhaust; split <;> (try split) <;> simp
@[simp] theorem parseSg_booting : (parseSg b s).booting = s.booting := by
  unfold parseSg gapFill gapExhaust; split <;> (try split) <;> simp
@[simp] theorem parseSg_agenda : (parseSg b s).agenda = s.agenda := by
  unfold parseSg gapFill gapExhaust; split <;> (try split) <;> simp
@[simp] theorem parseSg_draws : (parseSg b s).draws = s.draws := by
  unfold parseSg gapFill gapExhaust; split <;> (try split) <;> simp
@[simp] theorem parseSg_desc : (parseSg b s).desc = s.desc := by simp [State.desc]

end parseSg

section parse

variable (b : Byte) (s : State)

@[simp] theorem parse_cfg : (parse b s).cfg = s.cfg := by
  unfold parse parseSfs; split <;> (try split) <;> simp
@[simp] theorem parse_variant : (parse b s).variant = s.variant := by
  unfold parse parseSfs; split <;> (try split) <;> simp
@[simp] theorem parse_ring : (parse b s).ring = s.ring := by
  unfold parse parseSfs; split <;> (try split) <;> simp
@[simp] theorem parse_prodCursor : (parse b s).prodCursor = s.prodCursor := by
  unfold parse parseSfs; split <;> (try split) <;> simp
@[simp] theorem parse_consCursor : (parse b s).consCursor = s.consCursor := by
  unfold parse parseSfs; split <;> (try split) <;> simp
@[simp] theorem parse_captureEnabled : (parse b s).captureEnabled = s.captureEnabled := by
  unfold parse parseSfs; split <;> (try split) <;> simp
@[simp] theorem parse_produced : (parse b s).produced = s.produced := by
  unfold parse parseSfs; split <;> (try split) <;> simp
@[simp] theorem parse_consumed : (parse b s).consumed = s.consumed := by
  unfold parse parseSfs; split <;> (try split) <;> simp
@[simp] theorem parse_overrun : (parse b s).overrun = s.overrun := by
  unfold parse parseSfs; split <;> (try split) <;> simp
@[simp] theorem parse_terminal : (parse b s).terminal = s.terminal := by
  unfold parse parseSfs; split <;> (try split) <;> simp
@[simp] theorem parse_cmdQueue : (parse b s).cmdQueue = s.cmdQueue := by
  unfold parse parseSfs; split <;> (try split) <;> simp
@[simp] theorem parse_booting : (parse b s).booting = s.booting := by
  unfold parse parseSfs; split <;> (try split) <;> simp
@[simp] theorem parse_agenda : (parse b s).agenda = s.agenda := by
  unfold parse parseSfs; split <;> (try split) <;> simp
@[simp] theorem parse_draws : (parse b s).draws = s.draws := by
  unfold parse parseSfs; split <;> (try split) <;> simp
@[simp] theorem parse_desc : (parse b s).desc = s.desc := by simp [State.desc]

end parse

section parseBytes

variable (bs : List Byte) (s : State)

@[simp] theorem parseBytes_cfg : (parseBytes bs s).cfg = s.cfg := by
  induction bs generalizing s with
  | nil => rfl
  | cons b bs ih => exact (ih _).trans (by simp)
@[simp] theorem parseBytes_variant : (parseBytes bs s).variant = s.variant := by
  induction bs generalizing s with
  | nil => rfl
  | cons b bs ih => exact (ih _).trans (by simp)
@[simp] theorem parseBytes_ring : (parseBytes bs s).ring = s.ring := by
  induction bs generalizing s with
  | nil => rfl
  | cons b bs ih => exact (ih _).trans (by simp)
@[simp] theorem parseBytes_prodCursor : (parseBytes bs s).prodCursor = s.prodCursor := by
  induction bs generalizing s with
  | nil => rfl
  | cons b bs ih => exact (ih _).trans (by simp)
@[simp] theorem parseBytes_consCursor : (parseBytes bs s).consCursor = s.consCursor := by
  induction bs generalizing s with
  | nil => rfl
  | cons b bs ih => exact (ih _).trans (by simp)
@[simp] theorem parseBytes_captureEnabled : (parseBytes bs s).captureEnabled = s.captureEnabled := by
  induction bs generalizing s with
  | nil => rfl
  | cons b bs ih => exact (ih _).trans (by simp)
@[simp] theorem parseBytes_produced : (parseBytes bs s).produced = s.produced := by
  induction bs generalizing s with
  | nil => rfl
  | cons b bs ih => exact (ih _).trans (by simp)
@[simp] theorem parseBytes_consumed : (parseBytes bs s).consumed = s.consumed := by
  induction bs generalizing s with
  | nil => rfl
  | cons b bs ih => exact (ih _).trans (by simp)
@[simp] theorem parseBytes_overrun : (parseBytes bs s).overrun = s.overrun := by
  induction bs generalizing s with
  | nil => rfl
  | cons b bs ih => exact (ih _).trans (by simp)
@[simp] theorem parseBytes_terminal : (parseBytes bs s).terminal = s.terminal := by
  induction bs generalizing s with
  | nil => rfl
  | cons b bs ih => exact (ih _).trans (by simp)
@[simp] theorem parseBytes_cmdQueue : (parseBytes bs s).cmdQueue = s.cmdQueue := by
  induction bs generalizing s with
  | nil => rfl
  | cons b bs ih => exact (ih _).trans (by simp)
@[simp] theorem parseBytes_booting : (parseBytes bs s).booting = s.booting := by
  induction bs generalizing s with
  | nil => rfl
  | cons b bs ih => exact (ih _).trans (by simp)
@[simp] theorem parseBytes_agenda : (parseBytes bs s).agenda = s.agenda := by
  induction bs generalizing s with
  | nil => rfl
  | cons b bs ih => exact (ih _).trans (by simp)
@[simp] theorem parseBytes_draws : (parseBytes bs s).draws = s.draws := by
  induction bs generalizing s with
  | nil => rfl
  | cons b bs ih => exact (ih _).trans (by simp)
@[simp] theorem parseBytes_desc : (parseBytes bs s).desc = s.desc := by simp [State.desc]

end parseBytes

section consumer

variable (s : State)

@[simp] theorem consumer_cfg : (consumer s).cfg = s.cfg := by simp [consumer, samplePeak]
@[simp] theorem consumer_variant : (consumer s).variant = s.variant := by simp [consumer, samplePeak]
@[simp] theorem consumer_ring : (consumer s).ring = s.ring := by simp [consumer, samplePeak]
@[simp] theorem consumer_prodCursor : (consumer s).prodCursor = s.prodCursor := by simp [consumer, samplePeak]
@[simp] theorem consumer_consCursor : (consumer s).consCursor = ringIndex s (s.consCursor + batchSize s) := rfl
@[simp] theorem consumer_captureEnabled : (consumer s).captureEnabled = s.captureEnabled := by simp [consumer, samplePeak]
@[simp] theorem consumer_produced : (consumer s).produced = s.produced := by simp [consumer, samplePeak]
@[simp] theorem consumer_consumed : (consumer s).consumed = s.consumed + batchSize s := rfl
@[simp] theorem consumer_overrun : (consumer s).overrun = s.overrun := by simp [consumer, samplePeak]
@[simp] theorem consumer_terminal : (consumer s).terminal = s.terminal := by simp [consumer, samplePeak]
@[simp] theorem consumer_cmdQueue : (consumer s).cmdQueue = s.cmdQueue := by simp [consumer, samplePeak]
@[simp] theorem consumer_booting : (consumer s).booting = s.booting := by simp [consumer, samplePeak]
@[simp] theorem consumer_agenda : (consumer s).agenda = s.agenda := by simp [consumer, samplePeak]
@[simp] theorem consumer_draws : (consumer s).draws = s.draws := by simp [consumer, samplePeak]
@[simp] theorem consumer_desc : (consumer s).desc = s.desc := by simp [State.desc]

end consumer

/-- Two states have the same pending frame, header and cursor, where the first has one (R183). -/
def SameFrame (s t : State) : Prop :=
  s.pending = true → t.pending = true ∧ t.active = s.active ∧ t.hdr = s.hdr ∧
    t.sendCursor = s.sendCursor ∧ buffer t s.active.other = buffer s s.active.other

theorem SameFrame.trans {s t u : State} (h1 : SameFrame s t) (h2 : SameFrame t u) : SameFrame s u := by
  intro h
  obtain ⟨a1, a2, a3, a4, a5⟩ := h1 h
  obtain ⟨b1, b2, b3, b4, b5⟩ := h2 a1
  rw [a2] at b2 b5
  exact ⟨b1, b2, b3.trans a3, b4.trans a4, b5.trans a5⟩

/-- A step that leaves the fields of the pending frame keeps it. -/
theorem SameFrame.of_fields {s t : State} (h1 : t.pending = s.pending) (h2 : t.active = s.active)
    (h3 : t.hdr = s.hdr) (h4 : t.sendCursor = s.sendCursor) (h5 : t.bufPing = s.bufPing)
    (h6 : t.bufPong = s.bufPong) : SameFrame s t := by
  intro h
  refine ⟨h1.trans h, h2, h3, h4, ?_⟩
  cases s.active <;> simp [buffer, BufferId.other, h5, h6]

theorem crcMatch_sameFrame (s : State) : SameFrame s (crcMatch s) := by
  have h1 : SameFrame s (countCrcOk s) := .of_fields rfl rfl rfl rfl rfl rfl
  have h2 : SameFrame (countCrcOk s) (handleLine s.rowAddr (payload s) (countCrcOk s)) :=
    fun h => handleLine_pending h
  have h3 : ∀ u : State, SameFrame u (enterGap s.cfg.maxGap (lockFrame u)) :=
    fun u => .of_fields rfl rfl rfl rfl rfl rfl
  unfold crcMatch
  exact (h1.trans h2).trans (h3 _)

/-- PARSE keeps the pending frame (R183, R84). -/
theorem parse_sameFrame (b : Byte) (s : State) : SameFrame s (parse b s) := by
  have ho : SameFrame s (openRecord b s) := .of_fields rfl rfl rfl rfl rfl rfl
  have ha : SameFrame s (accumulate b s) := .of_fields rfl rfl rfl rfl rfl rfl
  unfold parse
  cases s.pstate <;> dsimp only
  · unfold parseSfs
    split
    · exact ho
    · exact .of_fields rfl rfl rfl rfl rfl rfl
  · unfold parseRl
    dsimp only
    split
    · refine ha.trans ?_
      unfold rowCheck
      repeat' split
      all_goals exact .of_fields rfl rfl rfl rfl rfl rfl
    · split
      · refine ha.trans ?_
        unfold complete
        split
        · have h1 : SameFrame (accumulate b s) (closeRecord (accumulate b s)) :=
            .of_fields rfl rfl rfl rfl rfl rfl
          exact h1.trans (crcMatch_sameFrame _)
        · exact .of_fields rfl rfl rfl rfl rfl rfl
      · exact ha
  · unfold parseSg
    repeat' split
    all_goals exact .of_fields rfl rfl rfl rfl rfl rfl

theorem parseBytes_sameFrame (bs : List Byte) (s : State) : SameFrame s (parseBytes bs s) := by
  induction bs generalizing s with
  | nil => exact .of_fields rfl rfl rfl rfl rfl rfl
  | cons b bs ih => exact (parse_sameFrame b s).trans (ih _)

/-- CONSUME keeps the pending frame (R183, R84). -/
theorem consumer_sameFrame (s : State) : SameFrame s (consumer s) := by
  have h1 : SameFrame s (samplePeak s) := .of_fields rfl rfl rfl rfl rfl rfl
  exact (h1.trans (parseBytes_sameFrame _ _)).trans (.of_fields rfl rfl rfl rfl rfl rfl)

end Sys2Proof.Machine
end

