-- ==== Sys2Proof/Laws/Controller.lean ====
section
/-! SUPPORT. What the operations of the frame sender, the mode controller and the scheduler leave and
what they write, field by field. -/

namespace Sys2Proof.Machine

section producer

variable (b : Byte) (s : State)

@[simp] theorem producer_cfg : (producer b s).cfg = s.cfg := rfl
@[simp] theorem producer_variant : (producer b s).variant = s.variant := rfl
@[simp] theorem producer_ring : (producer b s).ring = Memory.write s.ring (s.prodCursor % s.cfg.ringN) b := rfl
@[simp] theorem producer_prodCursor : (producer b s).prodCursor = (s.prodCursor + 1) % s.cfg.ringN := rfl
@[simp] theorem producer_consCursor : (producer b s).consCursor = s.consCursor := rfl
@[simp] theorem producer_captureEnabled : (producer b s).captureEnabled = s.captureEnabled := rfl
@[simp] theorem producer_produced : (producer b s).produced = s.produced + 1 := rfl
@[simp] theorem producer_consumed : (producer b s).consumed = s.consumed := rfl
@[simp] theorem producer_overrun : (producer b s).overrun = (s.overrun || decide (s.cfg.ringN ≤ s.produced + 1 - s.consumed)) := rfl
@[simp] theorem producer_pstate : (producer b s).pstate = s.pstate := rfl
@[simp] theorem producer_frameLocked : (producer b s).frameLocked = s.frameLocked := rfl
@[simp] theorem producer_lineBuf : (producer b s).lineBuf = s.lineBuf := rfl
@[simp] theorem producer_lineCount : (producer b s).lineCount = s.lineCount := rfl
@[simp] theorem producer_rowAddr : (producer b s).rowAddr = s.rowAddr := rfl
@[simp] theorem producer_gapRemaining : (producer b s).gapRemaining = s.gapRemaining := rfl
@[simp] theorem producer_bufPing : (producer b s).bufPing = s.bufPing := rfl
@[simp] theorem producer_bufPong : (producer b s).bufPong = s.bufPong := rfl
@[simp] theorem producer_active : (producer b s).active = s.active := rfl
@[simp] theorem producer_pending : (producer b s).pending = s.pending := rfl
@[simp] theorem producer_placed : (producer b s).placed = s.placed := rfl
@[simp] theorem producer_placedCount : (producer b s).placedCount = s.placedCount := rfl
@[simp] theorem producer_prevRow : (producer b s).prevRow = s.prevRow := rfl
@[simp] theorem producer_frameId : (producer b s).frameId = s.frameId := rfl
@[simp] theorem producer_hdr : (producer b s).hdr = s.hdr := rfl
@[simp] theorem producer_sendCursor : (producer b s).sendCursor = s.sendCursor := rfl
@[simp] theorem producer_stats : (producer b s).stats = s.stats := rfl
@[simp] theorem producer_terminal : (producer b s).terminal = s.terminal := rfl
@[simp] theorem producer_cmdQueue : (producer b s).cmdQueue = s.cmdQueue := rfl
@[simp] theorem producer_history : (producer b s).history = s.history := rfl
@[simp] theorem producer_booting : (producer b s).booting = s.booting := rfl
@[simp] theorem producer_agenda : (producer b s).agenda = s.agenda := rfl
@[simp] theorem producer_draws : (producer b s).draws = s.draws := rfl
@[simp] theorem producer_desc : (producer b s).desc = s.desc := rfl

end producer

section sendAbandon

variable (s : State)

@[simp] theorem sendAbandon_cfg : (sendAbandon s).cfg = s.cfg := rfl
@[simp] theorem sendAbandon_variant : (sendAbandon s).variant = s.variant := rfl
@[simp] theorem sendAbandon_ring : (sendAbandon s).ring = s.ring := rfl
@[simp] theorem sendAbandon_prodCursor : (sendAbandon s).prodCursor = s.prodCursor := rfl
@[simp] theorem sendAbandon_consCursor : (sendAbandon s).consCursor = s.consCursor := rfl
@[simp] theorem sendAbandon_captureEnabled : (sendAbandon s).captureEnabled = s.captureEnabled := rfl
@[simp] theorem sendAbandon_produced : (sendAbandon s).produced = s.produced := rfl
@[simp] theorem sendAbandon_consumed : (sendAbandon s).consumed = s.consumed := rfl
@[simp] theorem sendAbandon_overrun : (sendAbandon s).overrun = s.overrun := rfl
@[simp] theorem sendAbandon_pstate : (sendAbandon s).pstate = s.pstate := rfl
@[simp] theorem sendAbandon_frameLocked : (sendAbandon s).frameLocked = s.frameLocked := rfl
@[simp] theorem sendAbandon_lineBuf : (sendAbandon s).lineBuf = s.lineBuf := rfl
@[simp] theorem sendAbandon_lineCount : (sendAbandon s).lineCount = s.lineCount := rfl
@[simp] theorem sendAbandon_rowAddr : (sendAbandon s).rowAddr = s.rowAddr := rfl
@[simp] theorem sendAbandon_gapRemaining : (sendAbandon s).gapRemaining = s.gapRemaining := rfl
@[simp] theorem sendAbandon_bufPing : (sendAbandon s).bufPing = s.bufPing := rfl
@[simp] theorem sendAbandon_bufPong : (sendAbandon s).bufPong = s.bufPong := rfl
@[simp] theorem sendAbandon_active : (sendAbandon s).active = s.active := rfl
@[simp] theorem sendAbandon_pending : (sendAbandon s).pending = false := rfl
@[simp] theorem sendAbandon_placed : (sendAbandon s).placed = s.placed := rfl
@[simp] theorem sendAbandon_placedCount : (sendAbandon s).placedCount = s.placedCount := rfl
@[simp] theorem sendAbandon_prevRow : (sendAbandon s).prevRow = s.prevRow := rfl
@[simp] theorem sendAbandon_frameId : (sendAbandon s).frameId = s.frameId := rfl
@[simp] theorem sendAbandon_hdr : (sendAbandon s).hdr = s.hdr := rfl
@[simp] theorem sendAbandon_sendCursor : (sendAbandon s).sendCursor = 0 := rfl
@[simp] theorem sendAbandon_stats : (sendAbandon s).stats = s.stats := rfl
@[simp] theorem sendAbandon_terminal : (sendAbandon s).terminal = s.terminal := rfl
@[simp] theorem sendAbandon_cmdQueue : (sendAbandon s).cmdQueue = s.cmdQueue := rfl
@[simp] theorem sendAbandon_history : (sendAbandon s).history = s.history ++ [.sendAbandoned] := rfl
@[simp] theorem sendAbandon_booting : (sendAbandon s).booting = s.booting := rfl
@[simp] theorem sendAbandon_agenda : (sendAbandon s).agenda = s.agenda := rfl
@[simp] theorem sendAbandon_draws : (sendAbandon s).draws = s.draws := rfl
@[simp] theorem sendAbandon_desc : (sendAbandon s).desc = s.desc := rfl

end sendAbandon

section sendComplete

variable (s : State)

@[simp] theorem sendComplete_cfg : (sendComplete s).cfg = s.cfg := rfl
@[simp] theorem sendComplete_variant : (sendComplete s).variant = s.variant := rfl
@[simp] theorem sendComplete_ring : (sendComplete s).ring = s.ring := rfl
@[simp] theorem sendComplete_prodCursor : (sendComplete s).prodCursor = s.prodCursor := rfl
@[simp] theorem sendComplete_consCursor : (sendComplete s).consCursor = s.consCursor := rfl
@[simp] theorem sendComplete_captureEnabled : (sendComplete s).captureEnabled = s.captureEnabled := rfl
@[simp] theorem sendComplete_produced : (sendComplete s).produced = s.produced := rfl
@[simp] theorem sendComplete_consumed : (sendComplete s).consumed = s.consumed := rfl
@[simp] theorem sendComplete_overrun : (sendComplete s).overrun = s.overrun := rfl
@[simp] theorem sendComplete_pstate : (sendComplete s).pstate = s.pstate := rfl
@[simp] theorem sendComplete_frameLocked : (sendComplete s).frameLocked = s.frameLocked := rfl
@[simp] theorem sendComplete_lineBuf : (sendComplete s).lineBuf = s.lineBuf := rfl
@[simp] theorem sendComplete_lineCount : (sendComplete s).lineCount = s.lineCount := rfl
@[simp] theorem sendComplete_rowAddr : (sendComplete s).rowAddr = s.rowAddr := rfl
@[simp] theorem sendComplete_gapRemaining : (sendComplete s).gapRemaining = s.gapRemaining := rfl
@[simp] theorem sendComplete_bufPing : (sendComplete s).bufPing = s.bufPing := rfl
@[simp] theorem sendComplete_bufPong : (sendComplete s).bufPong = s.bufPong := rfl
@[simp] theorem sendComplete_active : (sendComplete s).active = s.active := rfl
@[simp] theorem sendComplete_pending : (sendComplete s).pending = false := rfl
@[simp] theorem sendComplete_placed : (sendComplete s).placed = s.placed := rfl
@[simp] theorem sendComplete_placedCount : (sendComplete s).placedCount = s.placedCount := rfl
@[simp] theorem sendComplete_prevRow : (sendComplete s).prevRow = s.prevRow := rfl
@[simp] theorem sendComplete_frameId : (sendComplete s).frameId = s.frameId := rfl
@[simp] theorem sendComplete_hdr : (sendComplete s).hdr = s.hdr := rfl
@[simp] theorem sendComplete_sendCursor : (sendComplete s).sendCursor = 0 := rfl
@[simp] theorem sendComplete_stats : (sendComplete s).stats = s.stats := rfl
@[simp] theorem sendComplete_terminal : (sendComplete s).terminal = s.terminal := rfl
@[simp] theorem sendComplete_cmdQueue : (sendComplete s).cmdQueue = s.cmdQueue := rfl
@[simp] theorem sendComplete_history : (sendComplete s).history = s.history ++ [.chanFlush, .frameSent] := by simp [sendComplete, chanFlush]
@[simp] theorem sendComplete_booting : (sendComplete s).booting = s.booting := rfl
@[simp] theorem sendComplete_agenda : (sendComplete s).agenda = s.agenda := rfl
@[simp] theorem sendComplete_draws : (sendComplete s).draws = s.draws := rfl
@[simp] theorem sendComplete_desc : (sendComplete s).desc = s.desc := rfl

end sendComplete

section sendWrite

variable (room k : Nat) (s : State)

@[simp] theorem sendWrite_cfg : (sendWrite room k s).cfg = s.cfg := rfl
@[simp] theorem sendWrite_variant : (sendWrite room k s).variant = s.variant := rfl
@[simp] theorem sendWrite_ring : (sendWrite room k s).ring = s.ring := rfl
@[simp] theorem sendWrite_prodCursor : (sendWrite room k s).prodCursor = s.prodCursor := rfl
@[simp] theorem sendWrite_consCursor : (sendWrite room k s).consCursor = s.consCursor := rfl
@[simp] theorem sendWrite_captureEnabled : (sendWrite room k s).captureEnabled = s.captureEnabled := rfl
@[simp] theorem sendWrite_produced : (sendWrite room k s).produced = s.produced := rfl
@[simp] theorem sendWrite_consumed : (sendWrite room k s).consumed = s.consumed := rfl
@[simp] theorem sendWrite_overrun : (sendWrite room k s).overrun = s.overrun := rfl
@[simp] theorem sendWrite_pstate : (sendWrite room k s).pstate = s.pstate := rfl
@[simp] theorem sendWrite_frameLocked : (sendWrite room k s).frameLocked = s.frameLocked := rfl
@[simp] theorem sendWrite_lineBuf : (sendWrite room k s).lineBuf = s.lineBuf := rfl
@[simp] theorem sendWrite_lineCount : (sendWrite room k s).lineCount = s.lineCount := rfl
@[simp] theorem sendWrite_rowAddr : (sendWrite room k s).rowAddr = s.rowAddr := rfl
@[simp] theorem sendWrite_gapRemaining : (sendWrite room k s).gapRemaining = s.gapRemaining := rfl
@[simp] theorem sendWrite_bufPing : (sendWrite room k s).bufPing = s.bufPing := rfl
@[simp] theorem sendWrite_bufPong : (sendWrite room k s).bufPong = s.bufPong := rfl
@[simp] theorem sendWrite_active : (sendWrite room k s).active = s.active := rfl
@[simp] theorem sendWrite_pending : (sendWrite room k s).pending = s.pending := rfl
@[simp] theorem sendWrite_placed : (sendWrite room k s).placed = s.placed := rfl
@[simp] theorem sendWrite_placedCount : (sendWrite room k s).placedCount = s.placedCount := rfl
@[simp] theorem sendWrite_prevRow : (sendWrite room k s).prevRow = s.prevRow := rfl
@[simp] theorem sendWrite_frameId : (sendWrite room k s).frameId = s.frameId := rfl
@[simp] theorem sendWrite_hdr : (sendWrite room k s).hdr = s.hdr := rfl
@[simp] theorem sendWrite_sendCursor : (sendWrite room k s).sendCursor = s.sendCursor + k := rfl
@[simp] theorem sendWrite_stats : (sendWrite room k s).stats = { s.stats with bytesForwarded := s.stats.bytesForwarded + BitVec.ofNat 32 k } := rfl
@[simp] theorem sendWrite_terminal : (sendWrite room k s).terminal = s.terminal := rfl
@[simp] theorem sendWrite_cmdQueue : (sendWrite room k s).cmdQueue = s.cmdQueue := rfl
@[simp] theorem sendWrite_history : (sendWrite room k s).history =
    s.history ++ [.chanWrite (streamBytes s s.sendCursor (offerSize room s)) k] := rfl
@[simp] theorem sendWrite_booting : (sendWrite room k s).booting = s.booting := rfl
@[simp] theorem sendWrite_agenda : (sendWrite room k s).agenda = s.agenda := rfl
@[simp] theorem sendWrite_draws : (sendWrite room k s).draws = s.draws := rfl
@[simp] theorem sendWrite_desc : (sendWrite room k s).desc = s.desc := rfl

end sendWrite

section sendPoll

variable (room k : Nat) (s : State)

@[simp] theorem sendPoll_cfg : (sendPoll room k s).cfg = s.cfg := by
  unfold sendPoll; dsimp only; split <;> split <;> simp
@[simp] theorem sendPoll_variant : (sendPoll room k s).variant = s.variant := by
  unfold sendPoll; dsimp only; split <;> split <;> simp
@[simp] theorem sendPoll_ring : (sendPoll room k s).ring = s.ring := by
  unfold sendPoll; dsimp only; split <;> split <;> simp
@[simp] theorem sendPoll_prodCursor : (sendPoll room k s).prodCursor = s.prodCursor := by
  unfold sendPoll; dsimp only; split <;> split <;> simp
@[simp] theorem sendPoll_consCursor : (sendPoll room k s).consCursor = s.consCursor := by
  unfold sendPoll; dsimp only; split <;> split <;> simp
@[simp] theorem sendPoll_captureEnabled : (sendPoll room k s).captureEnabled = s.captureEnabled := by
  unfold sendPoll; dsimp only; split <;> split <;> simp
@[simp] theorem sendPoll_produced : (sendPoll room k s).produced = s.produced := by
  unfold sendPoll; dsimp only; split <;> split <;> simp
@[simp] theorem sendPoll_consumed : (sendPoll room k s).consumed = s.consumed := by
  unfold sendPoll; dsimp only; split <;> split <;> simp
@[simp] theorem sendPoll_overrun : (sendPoll room k s).overrun = s.overrun := by
  unfold sendPoll; dsimp only; split <;> split <;> simp
@[simp] theorem sendPoll_pstate : (sendPoll room k s).pstate = s.pstate := by
  unfold sendPoll; dsimp only; split <;> split <;> simp
@[simp] theorem sendPoll_frameLocked : (sendPoll room k s).frameLocked = s.frameLocked := by
  unfold sendPoll; dsimp only; split <;> split <;> simp
@[simp] theorem sendPoll_lineBuf : (sendPoll room k s).lineBuf = s.lineBuf := by
  unfold sendPoll; dsimp only; split <;> split <;> simp
@[simp] theorem sendPoll_lineCount : (sendPoll room k s).lineCount = s.lineCount := by
  unfold sendPoll; dsimp only; split <;> split <;> simp
@[simp] theorem sendPoll_rowAddr : (sendPoll room k s).rowAddr = s.rowAddr := by
  unfold sendPoll; dsimp only; split <;> split <;> simp
@[simp] theorem sendPoll_gapRemaining : (sendPoll room k s).gapRemaining = s.gapRemaining := by
  unfold sendPoll; dsimp only; split <;> split <;> simp
@[simp] theorem sendPoll_bufPing : (sendPoll room k s).bufPing = s.bufPing := by
  unfold sendPoll; dsimp only; split <;> split <;> simp
@[simp] theorem sendPoll_bufPong : (sendPoll room k s).bufPong = s.bufPong := by
  unfold sendPoll; dsimp only; split <;> split <;> simp
@[simp] theorem sendPoll_active : (sendPoll room k s).active = s.active := by
  unfold sendPoll; dsimp only; split <;> split <;> simp
@[simp] theorem sendPoll_placed : (sendPoll room k s).placed = s.placed := by
  unfold sendPoll; dsimp only; split <;> split <;> simp
@[simp] theorem sendPoll_placedCount : (sendPoll room k s).placedCount = s.placedCount := by
  unfold sendPoll; dsimp only; split <;> split <;> simp
@[simp] theorem sendPoll_prevRow : (sendPoll room k s).prevRow = s.prevRow := by
  unfold sendPoll; dsimp only; split <;> split <;> simp
@[simp] theorem sendPoll_frameId : (sendPoll room k s).frameId = s.frameId := by
  unfold sendPoll; dsimp only; split <;> split <;> simp
@[simp] theorem sendPoll_hdr : (sendPoll room k s).hdr = s.hdr := by
  unfold sendPoll; dsimp only; split <;> split <;> simp
@[simp] theorem sendPoll_terminal : (sendPoll room k s).terminal = s.terminal := by
  unfold sendPoll; dsimp only; split <;> split <;> simp
@[simp] theorem sendPoll_cmdQueue : (sendPoll room k s).cmdQueue = s.cmdQueue := by
  unfold sendPoll; dsimp only; split <;> split <;> simp
@[simp] theorem sendPoll_booting : (sendPoll room k s).booting = s.booting := by
  unfold sendPoll; dsimp only; split <;> split <;> simp
@[simp] theorem sendPoll_agenda : (sendPoll room k s).agenda = s.agenda := by
  unfold sendPoll; dsimp only; split <;> split <;> simp
@[simp] theorem sendPoll_draws : (sendPoll room k s).draws = s.draws := by
  unfold sendPoll; dsimp only; split <;> split <;> simp
@[simp] theorem sendPoll_desc : (sendPoll room k s).desc = s.desc := by simp [State.desc]

end sendPoll

section haltCapture

variable (s : State)

@[simp] theorem haltCapture_cfg : (haltCapture s).cfg = s.cfg := rfl
@[simp] theorem haltCapture_variant : (haltCapture s).variant = s.variant := rfl
@[simp] theorem haltCapture_ring : (haltCapture s).ring = s.ring := rfl
@[simp] theorem haltCapture_prodCursor : (haltCapture s).prodCursor = s.prodCursor := rfl
@[simp] theorem haltCapture_consCursor : (haltCapture s).consCursor = s.consCursor := rfl
@[simp] theorem haltCapture_captureEnabled : (haltCapture s).captureEnabled = false := rfl
@[simp] theorem haltCapture_produced : (haltCapture s).produced = s.produced := rfl
@[simp] theorem haltCapture_consumed : (haltCapture s).consumed = s.consumed := rfl
@[simp] theorem haltCapture_overrun : (haltCapture s).overrun = s.overrun := rfl
@[simp] theorem haltCapture_pstate : (haltCapture s).pstate = s.pstate := rfl
@[simp] theorem haltCapture_frameLocked : (haltCapture s).frameLocked = s.frameLocked := rfl
@[simp] theorem haltCapture_lineBuf : (haltCapture s).lineBuf = s.lineBuf := rfl
@[simp] theorem haltCapture_lineCount : (haltCapture s).lineCount = s.lineCount := rfl
@[simp] theorem haltCapture_rowAddr : (haltCapture s).rowAddr = s.rowAddr := rfl
@[simp] theorem haltCapture_gapRemaining : (haltCapture s).gapRemaining = s.gapRemaining := rfl
@[simp] theorem haltCapture_bufPing : (haltCapture s).bufPing = s.bufPing := rfl
@[simp] theorem haltCapture_bufPong : (haltCapture s).bufPong = s.bufPong := rfl
@[simp] theorem haltCapture_active : (haltCapture s).active = s.active := rfl
@[simp] theorem haltCapture_pending : (haltCapture s).pending = s.pending := rfl
@[simp] theorem haltCapture_placed : (haltCapture s).placed = s.placed := rfl
@[simp] theorem haltCapture_placedCount : (haltCapture s).placedCount = s.placedCount := rfl
@[simp] theorem haltCapture_prevRow : (haltCapture s).prevRow = s.prevRow := rfl
@[simp] theorem haltCapture_frameId : (haltCapture s).frameId = s.frameId := rfl
@[simp] theorem haltCapture_hdr : (haltCapture s).hdr = s.hdr := rfl
@[simp] theorem haltCapture_sendCursor : (haltCapture s).sendCursor = s.sendCursor := rfl
@[simp] theorem haltCapture_stats : (haltCapture s).stats = s.stats := rfl
@[simp] theorem haltCapture_terminal : (haltCapture s).terminal = s.terminal := rfl
@[simp] theorem haltCapture_cmdQueue : (haltCapture s).cmdQueue = s.cmdQueue := rfl
@[simp] theorem haltCapture_history : (haltCapture s).history = s.history := rfl
@[simp] theorem haltCapture_booting : (haltCapture s).booting = s.booting := rfl
@[simp] theorem haltCapture_agenda : (haltCapture s).agenda = s.agenda := rfl
@[simp] theorem haltCapture_draws : (haltCapture s).draws = s.draws := rfl
@[simp] theorem haltCapture_desc : (haltCapture s).desc = s.desc := rfl

end haltCapture

section resetParser

variable (s : State)

@[simp] theorem resetParser_cfg : (resetParser s).cfg = s.cfg := rfl
@[simp] theorem resetParser_variant : (resetParser s).variant = s.variant := rfl
@[simp] theorem resetParser_ring : (resetParser s).ring = s.ring := rfl
@[simp] theorem resetParser_prodCursor : (resetParser s).prodCursor = s.prodCursor := rfl
@[simp] theorem resetParser_consCursor : (resetParser s).consCursor = s.consCursor := rfl
@[simp] theorem resetParser_captureEnabled : (resetParser s).captureEnabled = s.captureEnabled := rfl
@[simp] theorem resetParser_produced : (resetParser s).produced = s.produced := rfl
@[simp] theorem resetParser_consumed : (resetParser s).consumed = s.consumed := rfl
@[simp] theorem resetParser_overrun : (resetParser s).overrun = s.overrun := rfl
@[simp] theorem resetParser_pstate : (resetParser s).pstate = .scanningForSync := rfl
@[simp] theorem resetParser_frameLocked : (resetParser s).frameLocked = false := rfl
@[simp] theorem resetParser_lineBuf : (resetParser s).lineBuf = s.lineBuf := rfl
@[simp] theorem resetParser_lineCount : (resetParser s).lineCount = 0 := rfl
@[simp] theorem resetParser_rowAddr : (resetParser s).rowAddr = s.rowAddr := rfl
@[simp] theorem resetParser_gapRemaining : (resetParser s).gapRemaining = s.gapRemaining := rfl
@[simp] theorem resetParser_bufPing : (resetParser s).bufPing = s.bufPing := rfl
@[simp] theorem resetParser_bufPong : (resetParser s).bufPong = s.bufPong := rfl
@[simp] theorem resetParser_active : (resetParser s).active = s.active := rfl
@[simp] theorem resetParser_pending : (resetParser s).pending = s.pending := rfl
@[simp] theorem resetParser_placed : (resetParser s).placed = s.placed := rfl
@[simp] theorem resetParser_placedCount : (resetParser s).placedCount = s.placedCount := rfl
@[simp] theorem resetParser_prevRow : (resetParser s).prevRow = s.prevRow := rfl
@[simp] theorem resetParser_frameId : (resetParser s).frameId = s.frameId := rfl
@[simp] theorem resetParser_hdr : (resetParser s).hdr = s.hdr := rfl
@[simp] theorem resetParser_sendCursor : (resetParser s).sendCursor = s.sendCursor := rfl
@[simp] theorem resetParser_stats : (resetParser s).stats = s.stats := rfl
@[simp] theorem resetParser_terminal : (resetParser s).terminal = s.terminal := rfl
@[simp] theorem resetParser_cmdQueue : (resetParser s).cmdQueue = s.cmdQueue := rfl
@[simp] theorem resetParser_history : (resetParser s).history = s.history := rfl
@[simp] theorem resetParser_booting : (resetParser s).booting = s.booting := rfl
@[simp] theorem resetParser_agenda : (resetParser s).agenda = s.agenda := rfl
@[simp] theorem resetParser_draws : (resetParser s).draws = s.draws := rfl
@[simp] theorem resetParser_desc : (resetParser s).desc = s.desc := rfl

end resetParser

section clearAssembler

variable (s : State)

@[simp] theorem clearAssembler_cfg : (clearAssembler s).cfg = s.cfg := by
  simp [clearAssembler, bufClear, buffer]
@[simp] theorem clearAssembler_variant : (clearAssembler s).variant = s.variant := by
  simp [clearAssembler, bufClear, buffer]
@[simp] theorem clearAssembler_ring : (clearAssembler s).ring = s.ring := by
  simp [clearAssembler, bufClear, buffer]
@[simp] theorem clearAssembler_prodCursor : (clearAssembler s).prodCursor = s.prodCursor := by
  simp [clearAssembler, bufClear, buffer]
@[simp] theorem clearAssembler_consCursor : (clearAssembler s).consCursor = s.consCursor := by
  simp [clearAssembler, bufClear, buffer]
@[simp] theorem clearAssembler_captureEnabled : (clearAssembler s).captureEnabled = s.captureEnabled := by
  simp [clearAssembler, bufClear, buffer]
@[simp] theorem clearAssembler_produced : (clearAssembler s).produced = s.produced := by
  simp [clearAssembler, bufClear, buffer]
@[simp] theorem clearAssembler_consumed : (clearAssembler s).consumed = s.consumed := by
  simp [clearAssembler, bufClear, buffer]
@[simp] theorem clearAssembler_overrun : (clearAssembler s).overrun = s.overrun := by
  simp [clearAssembler, bufClear, buffer]
@[simp] theorem clearAssembler_pstate : (clearAssembler s).pstate = s.pstate := by
  simp [clearAssembler, bufClear, buffer]
@[simp] theorem clearAssembler_frameLocked : (clearAssembler s).frameLocked = s.frameLocked := by
  simp [clearAssembler, bufClear, buffer]
@[simp] theorem clearAssembler_lineBuf : (clearAssembler s).lineBuf = s.lineBuf := by
  simp [clearAssembler, bufClear, buffer]
@[simp] theorem clearAssembler_lineCount : (clearAssembler s).lineCount = s.lineCount := by
  simp [clearAssembler, bufClear, buffer]
@[simp] theorem clearAssembler_rowAddr : (clearAssembler s).rowAddr = s.rowAddr := by
  simp [clearAssembler, bufClear, buffer]
@[simp] theorem clearAssembler_gapRemaining : (clearAssembler s).gapRemaining = s.gapRemaining := by
  simp [clearAssembler, bufClear, buffer]
@[simp] theorem clearAssembler_bufPing : (clearAssembler s).bufPing =
    Memory.clearBelow s.cfg.bufferSize s.bufPing := by
  simp [clearAssembler, bufClear, buffer]
@[simp] theorem clearAssembler_bufPong : (clearAssembler s).bufPong =
    Memory.clearBelow s.cfg.bufferSize s.bufPong := by
  simp [clearAssembler, bufClear, buffer]
@[simp] theorem clearAssembler_active : (clearAssembler s).active = .ping := by
  simp [clearAssembler, bufClear, buffer]
@[simp] theorem clearAssembler_pending : (clearAssembler s).pending = s.pending := by
  simp [clearAssembler, bufClear, buffer]
@[simp] theorem clearAssembler_placed : (clearAssembler s).placed = 0 := by
  simp [clearAssembler, bufClear, buffer]
@[simp] theorem clearAssembler_placedCount : (clearAssembler s).placedCount = 0 := by
  simp [clearAssembler, bufClear, buffer]
@[simp] theorem clearAssembler_prevRow : (clearAssembler s).prevRow = s.prevRow := by
  simp [clearAssembler, bufClear, buffer]
@[simp] theorem clearAssembler_frameId : (clearAssembler s).frameId = s.frameId := by
  simp [clearAssembler, bufClear, buffer]
@[simp] theorem clearAssembler_hdr : (clearAssembler s).hdr = s.hdr := by
  simp [clearAssembler, bufClear, buffer]
@[simp] theorem clearAssembler_sendCursor : (clearAssembler s).sendCursor = s.sendCursor := by
  simp [clearAssembler, bufClear, buffer]
@[simp] theorem clearAssembler_stats : (clearAssembler s).stats = s.stats := by
  simp [clearAssembler, bufClear, buffer]
@[simp] theorem clearAssembler_terminal : (clearAssembler s).terminal = s.terminal := by
  simp [clearAssembler, bufClear, buffer]
@[simp] theorem clearAssembler_cmdQueue : (clearAssembler s).cmdQueue = s.cmdQueue := by
  simp [clearAssembler, bufClear, buffer]
@[simp] theorem clearAssembler_history : (clearAssembler s).history = s.history := by
  simp [clearAssembler, bufClear, buffer]
@[simp] theorem clearAssembler_booting : (clearAssembler s).booting = s.booting := by
  simp [clearAssembler, bufClear, buffer]
@[simp] theorem clearAssembler_agenda : (clearAssembler s).agenda = s.agenda := by
  simp [clearAssembler, bufClear, buffer]
@[simp] theorem clearAssembler_draws : (clearAssembler s).draws = s.draws := by
  simp [clearAssembler, bufClear, buffer]
@[simp] theorem clearAssembler_desc : (clearAssembler s).desc = s.desc := by
  simp [State.desc]

end clearAssembler

section resetCursors

variable (s : State)

@[simp] theorem resetCursors_cfg : (resetCursors s).cfg = s.cfg := rfl
@[simp] theorem resetCursors_variant : (resetCursors s).variant = s.variant := rfl
@[simp] theorem resetCursors_ring : (resetCursors s).ring = s.ring := rfl
@[simp] theorem resetCursors_prodCursor : (resetCursors s).prodCursor = 0 := rfl
@[simp] theorem resetCursors_consCursor : (resetCursors s).consCursor = 0 := rfl
@[simp] theorem resetCursors_captureEnabled : (resetCursors s).captureEnabled = s.captureEnabled := rfl
@[simp] theorem resetCursors_produced : (resetCursors s).produced = 0 := rfl
@[simp] theorem resetCursors_consumed : (resetCursors s).consumed = 0 := rfl
@[simp] theorem resetCursors_overrun : (resetCursors s).overrun = false := rfl
@[simp] theorem resetCursors_pstate : (resetCursors s).pstate = s.pstate := rfl
@[simp] theorem resetCursors_frameLocked : (resetCursors s).frameLocked = s.frameLocked := rfl
@[simp] theorem resetCursors_lineBuf : (resetCursors s).lineBuf = s.lineBuf := rfl
@[simp] theorem resetCursors_lineCount : (resetCursors s).lineCount = s.lineCount := rfl
@[simp] theorem resetCursors_rowAddr : (resetCursors s).rowAddr = s.rowAddr := rfl
@[simp] theorem resetCursors_gapRemaining : (resetCursors s).gapRemaining = s.gapRemaining := rfl
@[simp] theorem resetCursors_bufPing : (resetCursors s).bufPing = s.bufPing := rfl
@[simp] theorem resetCursors_bufPong : (resetCursors s).bufPong = s.bufPong := rfl
@[simp] theorem resetCursors_active : (resetCursors s).active = s.active := rfl
@[simp] theorem resetCursors_pending : (resetCursors s).pending = s.pending := rfl
@[simp] theorem resetCursors_placed : (resetCursors s).placed = s.placed := rfl
@[simp] theorem resetCursors_placedCount : (resetCursors s).placedCount = s.placedCount := rfl
@[simp] theorem resetCursors_prevRow : (resetCursors s).prevRow = s.prevRow := rfl
@[simp] theorem resetCursors_frameId : (resetCursors s).frameId = s.frameId := rfl
@[simp] theorem resetCursors_hdr : (resetCursors s).hdr = s.hdr := rfl
@[simp] theorem resetCursors_sendCursor : (resetCursors s).sendCursor = s.sendCursor := rfl
@[simp] theorem resetCursors_stats : (resetCursors s).stats = s.stats := rfl
@[simp] theorem resetCursors_terminal : (resetCursors s).terminal = s.terminal := rfl
@[simp] theorem resetCursors_cmdQueue : (resetCursors s).cmdQueue = s.cmdQueue := rfl
@[simp] theorem resetCursors_history : (resetCursors s).history = s.history := rfl
@[simp] theorem resetCursors_booting : (resetCursors s).booting = s.booting := rfl
@[simp] theorem resetCursors_agenda : (resetCursors s).agenda = s.agenda := rfl
@[simp] theorem resetCursors_draws : (resetCursors s).draws = s.draws := rfl
@[simp] theorem resetCursors_desc : (resetCursors s).desc = s.desc := rfl

end resetCursors

section selectVariant

variable (v : Variant) (s : State)

@[simp] theorem selectVariant_cfg : (selectVariant v s).cfg = s.cfg := rfl
@[simp] theorem selectVariant_variant : (selectVariant v s).variant = v := rfl
@[simp] theorem selectVariant_ring : (selectVariant v s).ring = s.ring := rfl
@[simp] theorem selectVariant_prodCursor : (selectVariant v s).prodCursor = s.prodCursor := rfl
@[simp] theorem selectVariant_consCursor : (selectVariant v s).consCursor = s.consCursor := rfl
@[simp] theorem selectVariant_captureEnabled : (selectVariant v s).captureEnabled = s.captureEnabled := rfl
@[simp] theorem selectVariant_produced : (selectVariant v s).produced = s.produced := rfl
@[simp] theorem selectVariant_consumed : (selectVariant v s).consumed = s.consumed := rfl
@[simp] theorem selectVariant_overrun : (selectVariant v s).overrun = s.overrun := rfl
@[simp] theorem selectVariant_pstate : (selectVariant v s).pstate = s.pstate := rfl
@[simp] theorem selectVariant_frameLocked : (selectVariant v s).frameLocked = s.frameLocked := rfl
@[simp] theorem selectVariant_lineBuf : (selectVariant v s).lineBuf = s.lineBuf := rfl
@[simp] theorem selectVariant_lineCount : (selectVariant v s).lineCount = s.lineCount := rfl
@[simp] theorem selectVariant_rowAddr : (selectVariant v s).rowAddr = s.rowAddr := rfl
@[simp] theorem selectVariant_gapRemaining : (selectVariant v s).gapRemaining = s.gapRemaining := rfl
@[simp] theorem selectVariant_bufPing : (selectVariant v s).bufPing = s.bufPing := rfl
@[simp] theorem selectVariant_bufPong : (selectVariant v s).bufPong = s.bufPong := rfl
@[simp] theorem selectVariant_active : (selectVariant v s).active = s.active := rfl
@[simp] theorem selectVariant_pending : (selectVariant v s).pending = s.pending := rfl
@[simp] theorem selectVariant_placed : (selectVariant v s).placed = s.placed := rfl
@[simp] theorem selectVariant_placedCount : (selectVariant v s).placedCount = s.placedCount := rfl
@[simp] theorem selectVariant_prevRow : (selectVariant v s).prevRow = s.prevRow := rfl
@[simp] theorem selectVariant_frameId : (selectVariant v s).frameId = s.frameId := rfl
@[simp] theorem selectVariant_hdr : (selectVariant v s).hdr = s.hdr := rfl
@[simp] theorem selectVariant_sendCursor : (selectVariant v s).sendCursor = s.sendCursor := rfl
@[simp] theorem selectVariant_stats : (selectVariant v s).stats = s.stats := rfl
@[simp] theorem selectVariant_terminal : (selectVariant v s).terminal = s.terminal := rfl
@[simp] theorem selectVariant_cmdQueue : (selectVariant v s).cmdQueue = s.cmdQueue := rfl
@[simp] theorem selectVariant_history : (selectVariant v s).history =
    s.history ++ [.modeSwitched v (s.cfg.descriptor v).bitRate] := rfl
@[simp] theorem selectVariant_booting : (selectVariant v s).booting = s.booting := rfl
@[simp] theorem selectVariant_agenda : (selectVariant v s).agenda = s.agenda := rfl
@[simp] theorem selectVariant_draws : (selectVariant v s).draws = s.draws := rfl

end selectVariant

section restartCapture

variable (s : State)

@[simp] theorem restartCapture_cfg : (restartCapture s).cfg = s.cfg := rfl
@[simp] theorem restartCapture_variant : (restartCapture s).variant = s.variant := rfl
@[simp] theorem restartCapture_ring : (restartCapture s).ring = s.ring := rfl
@[simp] theorem restartCapture_prodCursor : (restartCapture s).prodCursor = s.prodCursor := rfl
@[simp] theorem restartCapture_consCursor : (restartCapture s).consCursor = s.consCursor := rfl
@[simp] theorem restartCapture_captureEnabled : (restartCapture s).captureEnabled = true := rfl
@[simp] theorem restartCapture_produced : (restartCapture s).produced = s.produced := rfl
@[simp] theorem restartCapture_consumed : (restartCapture s).consumed = s.consumed := rfl
@[simp] theorem restartCapture_overrun : (restartCapture s).overrun = s.overrun := rfl
@[simp] theorem restartCapture_pstate : (restartCapture s).pstate = s.pstate := rfl
@[simp] theorem restartCapture_frameLocked : (restartCapture s).frameLocked = s.frameLocked := rfl
@[simp] theorem restartCapture_lineBuf : (restartCapture s).lineBuf = s.lineBuf := rfl
@[simp] theorem restartCapture_lineCount : (restartCapture s).lineCount = s.lineCount := rfl
@[simp] theorem restartCapture_rowAddr : (restartCapture s).rowAddr = s.rowAddr := rfl
@[simp] theorem restartCapture_gapRemaining : (restartCapture s).gapRemaining = s.gapRemaining := rfl
@[simp] theorem restartCapture_bufPing : (restartCapture s).bufPing = s.bufPing := rfl
@[simp] theorem restartCapture_bufPong : (restartCapture s).bufPong = s.bufPong := rfl
@[simp] theorem restartCapture_active : (restartCapture s).active = s.active := rfl
@[simp] theorem restartCapture_pending : (restartCapture s).pending = s.pending := rfl
@[simp] theorem restartCapture_placed : (restartCapture s).placed = s.placed := rfl
@[simp] theorem restartCapture_placedCount : (restartCapture s).placedCount = s.placedCount := rfl
@[simp] theorem restartCapture_prevRow : (restartCapture s).prevRow = s.prevRow := rfl
@[simp] theorem restartCapture_frameId : (restartCapture s).frameId = s.frameId := rfl
@[simp] theorem restartCapture_hdr : (restartCapture s).hdr = s.hdr := rfl
@[simp] theorem restartCapture_sendCursor : (restartCapture s).sendCursor = s.sendCursor := rfl
@[simp] theorem restartCapture_stats : (restartCapture s).stats = s.stats := rfl
@[simp] theorem restartCapture_terminal : (restartCapture s).terminal = s.terminal := rfl
@[simp] theorem restartCapture_cmdQueue : (restartCapture s).cmdQueue = s.cmdQueue := rfl
@[simp] theorem restartCapture_history : (restartCapture s).history = s.history := rfl
@[simp] theorem restartCapture_booting : (restartCapture s).booting = s.booting := rfl
@[simp] theorem restartCapture_agenda : (restartCapture s).agenda = s.agenda := rfl
@[simp] theorem restartCapture_draws : (restartCapture s).draws = s.draws := rfl
@[simp] theorem restartCapture_desc : (restartCapture s).desc = s.desc := rfl

end restartCapture

section modeSwitch

variable (v : Variant) (s : State)

@[simp] theorem modeSwitch_cfg : (modeSwitch v s).cfg = s.cfg := by simp [modeSwitch]
@[simp] theorem modeSwitch_variant : (modeSwitch v s).variant = v := by simp [modeSwitch]
@[simp] theorem modeSwitch_ring : (modeSwitch v s).ring = s.ring := by simp [modeSwitch]
@[simp] theorem modeSwitch_prodCursor : (modeSwitch v s).prodCursor = 0 := by simp [modeSwitch]
@[simp] theorem modeSwitch_consCursor : (modeSwitch v s).consCursor = 0 := by simp [modeSwitch]
@[simp] theorem modeSwitch_captureEnabled : (modeSwitch v s).captureEnabled = true := by simp [modeSwitch]
@[simp] theorem modeSwitch_produced : (modeSwitch v s).produced = 0 := by simp [modeSwitch]
@[simp] theorem modeSwitch_consumed : (modeSwitch v s).consumed = 0 := by simp [modeSwitch]
@[simp] theorem modeSwitch_overrun : (modeSwitch v s).overrun = false := by simp [modeSwitch]
@[simp] theorem modeSwitch_pstate : (modeSwitch v s).pstate = .scanningForSync := by simp [modeSwitch]
@[simp] theorem modeSwitch_frameLocked : (modeSwitch v s).frameLocked = false := by simp [modeSwitch]
@[simp] theorem modeSwitch_lineBuf : (modeSwitch v s).lineBuf = s.lineBuf := by simp [modeSwitch]
@[simp] theorem modeSwitch_lineCount : (modeSwitch v s).lineCount = 0 := by simp [modeSwitch]
@[simp] theorem modeSwitch_rowAddr : (modeSwitch v s).rowAddr = s.rowAddr := by simp [modeSwitch]
@[simp] theorem modeSwitch_gapRemaining : (modeSwitch v s).gapRemaining = s.gapRemaining := by simp [modeSwitch]
@[simp] theorem modeSwitch_bufPing : (modeSwitch v s).bufPing =
    Memory.clearBelow s.cfg.bufferSize s.bufPing := by simp [modeSwitch]
@[simp] theorem modeSwitch_bufPong : (modeSwitch v s).bufPong =
    Memory.clearBelow s.cfg.bufferSize s.bufPong := by simp [modeSwitch]
@[simp] theorem modeSwitch_active : (modeSwitch v s).active = .ping := by simp [modeSwitch]
@[simp] theorem modeSwitch_pending : (modeSwitch v s).pending = false := by simp [modeSwitch]
@[simp] theorem modeSwitch_placed : (modeSwitch v s).placed = 0 := by simp [modeSwitch]
@[simp] theorem modeSwitch_placedCount : (modeSwitch v s).placedCount = 0 := by simp [modeSwitch]
@[simp] theorem modeSwitch_prevRow : (modeSwitch v s).prevRow = s.prevRow := by simp [modeSwitch]
@[simp] theorem modeSwitch_frameId : (modeSwitch v s).frameId = s.frameId := by simp [modeSwitch]
@[simp] theorem modeSwitch_hdr : (modeSwitch v s).hdr = s.hdr := by simp [modeSwitch]
@[simp] theorem modeSwitch_sendCursor : (modeSwitch v s).sendCursor = 0 := by simp [modeSwitch]
@[simp] theorem modeSwitch_stats : (modeSwitch v s).stats = s.stats := by simp [modeSwitch]
@[simp] theorem modeSwitch_terminal : (modeSwitch v s).terminal = s.terminal := by simp [modeSwitch]
@[simp] theorem modeSwitch_cmdQueue : (modeSwitch v s).cmdQueue = s.cmdQueue := by simp [modeSwitch]
@[simp] theorem modeSwitch_history : (modeSwitch v s).history =
    s.history ++ [.modeSwitched v (s.cfg.descriptor v).bitRate] := by simp [modeSwitch]
@[simp] theorem modeSwitch_booting : (modeSwitch v s).booting = s.booting := by simp [modeSwitch]
@[simp] theorem modeSwitch_agenda : (modeSwitch v s).agenda = s.agenda := by simp [modeSwitch]
@[simp] theorem modeSwitch_draws : (modeSwitch v s).draws = s.draws := by simp [modeSwitch]

end modeSwitch

section statusReport

variable (s : State)

@[simp] theorem statusReport_cfg : (statusReport s).cfg = s.cfg := rfl
@[simp] theorem statusReport_variant : (statusReport s).variant = s.variant := rfl
@[simp] theorem statusReport_ring : (statusReport s).ring = s.ring := rfl
@[simp] theorem statusReport_prodCursor : (statusReport s).prodCursor = s.prodCursor := rfl
@[simp] theorem statusReport_consCursor : (statusReport s).consCursor = s.consCursor := rfl
@[simp] theorem statusReport_captureEnabled : (statusReport s).captureEnabled = s.captureEnabled := rfl
@[simp] theorem statusReport_produced : (statusReport s).produced = s.produced := rfl
@[simp] theorem statusReport_consumed : (statusReport s).consumed = s.consumed := rfl
@[simp] theorem statusReport_overrun : (statusReport s).overrun = s.overrun := rfl
@[simp] theorem statusReport_pstate : (statusReport s).pstate = s.pstate := rfl
@[simp] theorem statusReport_frameLocked : (statusReport s).frameLocked = s.frameLocked := rfl
@[simp] theorem statusReport_lineBuf : (statusReport s).lineBuf = s.lineBuf := rfl
@[simp] theorem statusReport_lineCount : (statusReport s).lineCount = s.lineCount := rfl
@[simp] theorem statusReport_rowAddr : (statusReport s).rowAddr = s.rowAddr := rfl
@[simp] theorem statusReport_gapRemaining : (statusReport s).gapRemaining = s.gapRemaining := rfl
@[simp] theorem statusReport_bufPing : (statusReport s).bufPing = s.bufPing := rfl
@[simp] theorem statusReport_bufPong : (statusReport s).bufPong = s.bufPong := rfl
@[simp] theorem statusReport_active : (statusReport s).active = s.active := rfl
@[simp] theorem statusReport_pending : (statusReport s).pending = s.pending := rfl
@[simp] theorem statusReport_placed : (statusReport s).placed = s.placed := rfl
@[simp] theorem statusReport_placedCount : (statusReport s).placedCount = s.placedCount := rfl
@[simp] theorem statusReport_prevRow : (statusReport s).prevRow = s.prevRow := rfl
@[simp] theorem statusReport_frameId : (statusReport s).frameId = s.frameId := rfl
@[simp] theorem statusReport_hdr : (statusReport s).hdr = s.hdr := rfl
@[simp] theorem statusReport_sendCursor : (statusReport s).sendCursor = s.sendCursor := rfl
@[simp] theorem statusReport_stats : (statusReport s).stats = s.stats := rfl
@[simp] theorem statusReport_terminal : (statusReport s).terminal = s.terminal := rfl
@[simp] theorem statusReport_cmdQueue : (statusReport s).cmdQueue = s.cmdQueue := rfl
@[simp] theorem statusReport_history : (statusReport s).history =
    s.history ++ [.status s.stats, .chanText (Config.statusText s.draws s.stats)] := by simp [statusReport, chanWriteOpaque]
@[simp] theorem statusReport_booting : (statusReport s).booting = s.booting := rfl
@[simp] theorem statusReport_agenda : (statusReport s).agenda = s.agenda := rfl
@[simp] theorem statusReport_draws : (statusReport s).draws = s.draws + 1 := rfl
@[simp] theorem statusReport_desc : (statusReport s).desc = s.desc := rfl

end statusReport

section clearStats

variable (s : State)

@[simp] theorem clearStats_cfg : (clearStats s).cfg = s.cfg := rfl
@[simp] theorem clearStats_variant : (clearStats s).variant = s.variant := rfl
@[simp] theorem clearStats_ring : (clearStats s).ring = s.ring := rfl
@[simp] theorem clearStats_prodCursor : (clearStats s).prodCursor = s.prodCursor := rfl
@[simp] theorem clearStats_consCursor : (clearStats s).consCursor = s.consCursor := rfl
@[simp] theorem clearStats_captureEnabled : (clearStats s).captureEnabled = s.captureEnabled := rfl
@[simp] theorem clearStats_produced : (clearStats s).produced = s.produced := rfl
@[simp] theorem clearStats_consumed : (clearStats s).consumed = s.consumed := rfl
@[simp] theorem clearStats_overrun : (clearStats s).overrun = s.overrun := rfl
@[simp] theorem clearStats_pstate : (clearStats s).pstate = s.pstate := rfl
@[simp] theorem clearStats_frameLocked : (clearStats s).frameLocked = s.frameLocked := rfl
@[simp] theorem clearStats_lineBuf : (clearStats s).lineBuf = s.lineBuf := rfl
@[simp] theorem clearStats_lineCount : (clearStats s).lineCount = s.lineCount := rfl
@[simp] theorem clearStats_rowAddr : (clearStats s).rowAddr = s.rowAddr := rfl
@[simp] theorem clearStats_gapRemaining : (clearStats s).gapRemaining = s.gapRemaining := rfl
@[simp] theorem clearStats_bufPing : (clearStats s).bufPing = s.bufPing := rfl
@[simp] theorem clearStats_bufPong : (clearStats s).bufPong = s.bufPong := rfl
@[simp] theorem clearStats_active : (clearStats s).active = s.active := rfl
@[simp] theorem clearStats_pending : (clearStats s).pending = s.pending := rfl
@[simp] theorem clearStats_placed : (clearStats s).placed = s.placed := rfl
@[simp] theorem clearStats_placedCount : (clearStats s).placedCount = s.placedCount := rfl
@[simp] theorem clearStats_prevRow : (clearStats s).prevRow = s.prevRow := rfl
@[simp] theorem clearStats_frameId : (clearStats s).frameId = s.frameId := rfl
@[simp] theorem clearStats_hdr : (clearStats s).hdr = s.hdr := rfl
@[simp] theorem clearStats_sendCursor : (clearStats s).sendCursor = s.sendCursor := rfl
@[simp] theorem clearStats_stats : (clearStats s).stats = Stats.zero := rfl
@[simp] theorem clearStats_terminal : (clearStats s).terminal = s.terminal := rfl
@[simp] theorem clearStats_cmdQueue : (clearStats s).cmdQueue = s.cmdQueue := rfl
@[simp] theorem clearStats_history : (clearStats s).history = s.history := rfl
@[simp] theorem clearStats_booting : (clearStats s).booting = s.booting := rfl
@[simp] theorem clearStats_agenda : (clearStats s).agenda = s.agenda := rfl
@[simp] theorem clearStats_draws : (clearStats s).draws = s.draws := rfl
@[simp] theorem clearStats_desc : (clearStats s).desc = s.desc := rfl

end clearStats

section firmwareUpdate

variable (s : State)

@[simp] theorem firmwareUpdate_cfg : (firmwareUpdate s).cfg = s.cfg := by simp [firmwareUpdate, chanFlush, chanWriteOpaque]
@[simp] theorem firmwareUpdate_variant : (firmwareUpdate s).variant = s.variant := by simp [firmwareUpdate, chanFlush, chanWriteOpaque]
@[simp] theorem firmwareUpdate_ring : (firmwareUpdate s).ring = s.ring := by simp [firmwareUpdate, chanFlush, chanWriteOpaque]
@[simp] theorem firmwareUpdate_prodCursor : (firmwareUpdate s).prodCursor = s.prodCursor := by simp [firmwareUpdate, chanFlush, chanWriteOpaque]
@[simp] theorem firmwareUpdate_consCursor : (firmwareUpdate s).consCursor = s.consCursor := by simp [firmwareUpdate, chanFlush, chanWriteOpaque]
@[simp] theorem firmwareUpdate_captureEnabled : (firmwareUpdate s).captureEnabled = s.captureEnabled := by simp [firmwareUpdate, chanFlush, chanWriteOpaque]
@[simp] theorem firmwareUpdate_produced : (firmwareUpdate s).produced = s.produced := by simp [firmwareUpdate, chanFlush, chanWriteOpaque]
@[simp] theorem firmwareUpdate_consumed : (firmwareUpdate s).consumed = s.consumed := by simp [firmwareUpdate, chanFlush, chanWriteOpaque]
@[simp] theorem firmwareUpdate_overrun : (firmwareUpdate s).overrun = s.overrun := by simp [firmwareUpdate, chanFlush, chanWriteOpaque]
@[simp] theorem firmwareUpdate_pstate : (firmwareUpdate s).pstate = s.pstate := by simp [firmwareUpdate, chanFlush, chanWriteOpaque]
@[simp] theorem firmwareUpdate_frameLocked : (firmwareUpdate s).frameLocked = s.frameLocked := by simp [firmwareUpdate, chanFlush, chanWriteOpaque]
@[simp] theorem firmwareUpdate_lineBuf : (firmwareUpdate s).lineBuf = s.lineBuf := by simp [firmwareUpdate, chanFlush, chanWriteOpaque]
@[simp] theorem firmwareUpdate_lineCount : (firmwareUpdate s).lineCount = s.lineCount := by simp [firmwareUpdate, chanFlush, chanWriteOpaque]
@[simp] theorem firmwareUpdate_rowAddr : (firmwareUpdate s).rowAddr = s.rowAddr := by simp [firmwareUpdate, chanFlush, chanWriteOpaque]
@[simp] theorem firmwareUpdate_gapRemaining : (firmwareUpdate s).gapRemaining = s.gapRemaining := by simp [firmwareUpdate, chanFlush, chanWriteOpaque]
@[simp] theorem firmwareUpdate_bufPing : (firmwareUpdate s).bufPing = s.bufPing := by simp [firmwareUpdate, chanFlush, chanWriteOpaque]
@[simp] theorem firmwareUpdate_bufPong : (firmwareUpdate s).bufPong = s.bufPong := by simp [firmwareUpdate, chanFlush, chanWriteOpaque]
@[simp] theorem firmwareUpdate_active : (firmwareUpdate s).active = s.active := by simp [firmwareUpdate, chanFlush, chanWriteOpaque]
@[simp] theorem firmwareUpdate_pending : (firmwareUpdate s).pending = s.pending := by simp [firmwareUpdate, chanFlush, chanWriteOpaque]
@[simp] theorem firmwareUpdate_placed : (firmwareUpdate s).placed = s.placed := by simp [firmwareUpdate, chanFlush, chanWriteOpaque]
@[simp] theorem firmwareUpdate_placedCount : (firmwareUpdate s).placedCount = s.placedCount := by simp [firmwareUpdate, chanFlush, chanWriteOpaque]
@[simp] theorem firmwareUpdate_prevRow : (firmwareUpdate s).prevRow = s.prevRow := by simp [firmwareUpdate, chanFlush, chanWriteOpaque]
@[simp] theorem firmwareUpdate_frameId : (firmwareUpdate s).frameId = s.frameId := by simp [firmwareUpdate, chanFlush, chanWriteOpaque]
@[simp] theorem firmwareUpdate_hdr : (firmwareUpdate s).hdr = s.hdr := by simp [firmwareUpdate, chanFlush, chanWriteOpaque]
@[simp] theorem firmwareUpdate_sendCursor : (firmwareUpdate s).sendCursor = s.sendCursor := by simp [firmwareUpdate, chanFlush, chanWriteOpaque]
@[simp] theorem firmwareUpdate_stats : (firmwareUpdate s).stats = s.stats := by simp [firmwareUpdate, chanFlush, chanWriteOpaque]
@[simp] theorem firmwareUpdate_terminal : (firmwareUpdate s).terminal = true := by simp [firmwareUpdate, chanFlush, chanWriteOpaque]
@[simp] theorem firmwareUpdate_cmdQueue : (firmwareUpdate s).cmdQueue = s.cmdQueue := by simp [firmwareUpdate, chanFlush, chanWriteOpaque]
@[simp] theorem firmwareUpdate_history : (firmwareUpdate s).history =
    s.history ++ [.chanText (Config.ackText s.draws), .chanFlush, .firmwareUpdate] := by simp [firmwareUpdate, chanFlush, chanWriteOpaque]
@[simp] theorem firmwareUpdate_booting : (firmwareUpdate s).booting = s.booting := by simp [firmwareUpdate, chanFlush, chanWriteOpaque]
@[simp] theorem firmwareUpdate_agenda : (firmwareUpdate s).agenda = s.agenda := by simp [firmwareUpdate, chanFlush, chanWriteOpaque]
@[simp] theorem firmwareUpdate_draws : (firmwareUpdate s).draws = s.draws + 1 := by simp [firmwareUpdate, chanFlush, chanWriteOpaque]
@[simp] theorem firmwareUpdate_desc : (firmwareUpdate s).desc = s.desc := by simp [State.desc]

end firmwareUpdate

section takeMove

variable (s : State)

@[simp] theorem takeMove_cfg : (takeMove s).cfg = s.cfg := by unfold takeMove; split <;> rfl
@[simp] theorem takeMove_variant : (takeMove s).variant = s.variant := by unfold takeMove; split <;> rfl
@[simp] theorem takeMove_ring : (takeMove s).ring = s.ring := by unfold takeMove; split <;> rfl
@[simp] theorem takeMove_prodCursor : (takeMove s).prodCursor = s.prodCursor := by unfold takeMove; split <;> rfl
@[simp] theorem takeMove_consCursor : (takeMove s).consCursor = s.consCursor := by unfold takeMove; split <;> rfl
@[simp] theorem takeMove_captureEnabled : (takeMove s).captureEnabled = s.captureEnabled := by unfold takeMove; split <;> rfl
@[simp] theorem takeMove_produced : (takeMove s).produced = s.produced := by unfold takeMove; split <;> rfl
@[simp] theorem takeMove_consumed : (takeMove s).consumed = s.consumed := by unfold takeMove; split <;> rfl
@[simp] theorem takeMove_overrun : (takeMove s).overrun = s.overrun := by unfold takeMove; split <;> rfl
@[simp] theorem takeMove_pstate : (takeMove s).pstate = s.pstate := by unfold takeMove; split <;> rfl
@[simp] theorem takeMove_frameLocked : (takeMove s).frameLocked = s.frameLocked := by unfold takeMove; split <;> rfl
@[simp] theorem takeMove_lineBuf : (takeMove s).lineBuf = s.lineBuf := by unfold takeMove; split <;> rfl
@[simp] theorem takeMove_lineCount : (takeMove s).lineCount = s.lineCount := by unfold takeMove; split <;> rfl
@[simp] theorem takeMove_rowAddr : (takeMove s).rowAddr = s.rowAddr := by unfold takeMove; split <;> rfl
@[simp] theorem takeMove_gapRemaining : (takeMove s).gapRemaining = s.gapRemaining := by unfold takeMove; split <;> rfl
@[simp] theorem takeMove_bufPing : (takeMove s).bufPing = s.bufPing := by unfold takeMove; split <;> rfl
@[simp] theorem takeMove_bufPong : (takeMove s).bufPong = s.bufPong := by unfold takeMove; split <;> rfl
@[simp] theorem takeMove_active : (takeMove s).active = s.active := by unfold takeMove; split <;> rfl
@[simp] theorem takeMove_pending : (takeMove s).pending = s.pending := by unfold takeMove; split <;> rfl
@[simp] theorem takeMove_placed : (takeMove s).placed = s.placed := by unfold takeMove; split <;> rfl
@[simp] theorem takeMove_placedCount : (takeMove s).placedCount = s.placedCount := by unfold takeMove; split <;> rfl
@[simp] theorem takeMove_prevRow : (takeMove s).prevRow = s.prevRow := by unfold takeMove; split <;> rfl
@[simp] theorem takeMove_frameId : (takeMove s).frameId = s.frameId := by unfold takeMove; split <;> rfl
@[simp] theorem takeMove_hdr : (takeMove s).hdr = s.hdr := by unfold takeMove; split <;> rfl
@[simp] theorem takeMove_sendCursor : (takeMove s).sendCursor = s.sendCursor := by unfold takeMove; split <;> rfl
@[simp] theorem takeMove_stats : (takeMove s).stats = s.stats := by unfold takeMove; split <;> rfl
@[simp] theorem takeMove_terminal : (takeMove s).terminal = s.terminal := by unfold takeMove; split <;> rfl
@[simp] theorem takeMove_cmdQueue : (takeMove s).cmdQueue = s.cmdQueue := by unfold takeMove; split <;> rfl
@[simp] theorem takeMove_history : (takeMove s).history = s.history := by unfold takeMove; split <;> rfl
@[simp] theorem takeMove_booting : (takeMove s).booting = s.booting := by unfold takeMove; split <;> rfl
@[simp] theorem takeMove_desc : (takeMove s).desc = s.desc := by unfold takeMove; split <;> rfl

end takeMove

/-- What a POLL does with a frame pending whose channel accepts `k` of a non-empty offer short of the
end (R204). -/
theorem sendPoll_partial {room k : Nat} {s : State} (ho : 0 < offerSize room s)
    (hk : s.sendCursor + k ≠ packetSize s) : sendPoll room k s = sendWrite room k s := by
  unfold sendPoll
  dsimp only
  rw [if_pos ho, if_neg]
  exact hk

/-- What a POLL does where the channel accepts the rest of the packet (R204, R205). -/
theorem sendPoll_last {room k : Nat} {s : State} (ho : 0 < offerSize room s)
    (hk : s.sendCursor + k = packetSize s) :
    sendPoll room k s = sendComplete (sendWrite room k s) := by
  unfold sendPoll
  dsimp only
  rw [if_pos ho, if_pos]
  exact hk

end Sys2Proof.Machine
end

