-- ==== Sys2Proof/Laws/Ops.lean ====
section
/-! SUPPORT. What the shared operations can answer, said once: the guards, the ring, the buffers, the
boundary and the placement. -/

namespace Sys2Proof.Machine

/-- What a guarded operation that goes on has met. -/
theorem whenRunning_eq_next {s t : State} {o : Host.Outcome State Fault Refusal} :
    whenRunning s o = .next t ↔ Running s ∧ o = .next t := by
  unfold whenRunning Running
  split <;> rename_i h1
  · simp [h1]
  · split <;> rename_i h2
    · simp [h2]
    · simp_all

/-- A guarded operation faults only where its body does. -/
theorem whenRunning_eq_fault {s : State} {f : Fault} {o : Host.Outcome State Fault Refusal} :
    whenRunning s o = .fault f ↔ Running s ∧ o = .fault f := by
  unfold whenRunning Running
  split <;> rename_i h1
  · simp [h1]
  · split <;> rename_i h2
    · simp [h2]
    · simp_all

/-- Where the block runs, the guard does nothing. -/
theorem whenRunning_of_running {s : State} (h : Running s) (o : Host.Outcome State Fault Refusal) :
    whenRunning s o = o := by
  obtain ⟨h1, h2⟩ := h
  simp [whenRunning, h1, h2]

/-- What an operation with one effect has met where it goes on, and where it goes. -/
theorem attempt_eq_next {s s' t : State} {e : Bool} :
    attempt s e s' = .next t ↔ Running s ∧ e = true ∧ s' = t := by
  unfold attempt
  rw [whenRunning_eq_next]
  cases e <;> simp

/-- An operation with one effect never faults. -/
theorem attempt_ne_fault {s s' : State} {e : Bool} {f : Fault} : attempt s e s' ≠ .fault f := by
  unfold attempt
  rw [Ne, whenRunning_eq_fault]
  cases e <;> simp

/-- An operation that is selected while the block runs has its effect. -/
theorem attempt_of_enabled {s s' : State} {e : Bool} (h : Running s) (he : e = true) :
    attempt s e s' = .next s' :=
  attempt_eq_next.mpr ⟨h, he, rfl⟩

/-- An operation with one effect has no move in exactly the states in which it is not selected (R14). -/
theorem attempt_eq_notEnabled {s s' : State} {e : Bool} (h : Running s) :
    attempt s e s' = .refused .notEnabled ↔ ¬ e = true := by
  unfold attempt
  rw [whenRunning_of_running h]
  cases e <;> simp

theorem Config.ringN_pos (c : Config) : 0 < c.ringN := Nat.two_pow_pos _

/-- `RING_N` is at least 2 in a configuration that has a run (WF1). -/
theorem Config.two_le_ringN {c : Config} (h : c.wf = true) : 2 ≤ c.ringN := by
  have h1 : 1 ≤ c.ringBits := by
    simp only [Config.wf, Bool.and_eq_true, decide_eq_true_eq] at h
    exact h.1.1.1.1.1
  have h2 : 2 ^ 1 ≤ 2 ^ c.ringBits := Nat.pow_le_pow_right (by decide) h1
  exact h2

/-- WF2 and WF3. -/
theorem Config.wf_bounds {c : Config} (h : c.wf = true) : 1 ≤ c.batchMax ∧ 1 ≤ c.maxGap := by
  simp only [Config.wf, Bool.and_eq_true, decide_eq_true_eq] at h
  exact ⟨h.1.1.1.1.2, h.1.1.1.2⟩

/-- WF4 for the active variant. -/
theorem State.desc_wf {s : State} (h : s.cfg.wf = true) : s.desc.wf = true := by
  simp only [Config.wf, Bool.and_eq_true, decide_eq_true_eq] at h
  unfold State.desc
  cases s.variant
  · exact h.1.1.2
  · exact h.1.2

/-- WF4, spelled out. -/
theorem Descriptor.wf_bounds {d : Descriptor} (h : d.wf = true) :
    1 ≤ d.width ∧ 1 ≤ d.height ∧ d.height ≤ d.totalLines ∧ d.totalLines ≤ 256 ∧
      d.width ≤ 65535 ∧ d.height ≤ 65535 := by
  simp only [Descriptor.wf, Bool.and_eq_true, decide_eq_true_eq] at h
  tauto

/-- A frame of the active variant fits an assembly buffer (R43). -/
theorem State.frameSize_le (s : State) : s.desc.frameSize ≤ s.cfg.bufferSize := by
  unfold Descriptor.frameSize Config.bufferSize Config.maxWidth Config.maxHeight State.desc
  cases s.variant <;> exact Nat.mul_le_mul (by simp [Config.descriptor]) (by simp [Config.descriptor])

/-- A record of the active variant fits the line buffer (R39). -/
theorem State.recordSize_le (s : State) : s.desc.recordSize ≤ s.cfg.maxRecord := by
  unfold Config.maxRecord State.desc
  cases s.variant <;> simp [Config.descriptor]

/-- Where the cursors are the ghost counts modulo `RING_N`, `available()` is the unread count modulo
`RING_N` (R122). -/
theorem available_eq {s : State} (h : RingInv s) :
    available s = (s.produced - s.consumed) % s.cfg.ringN := by
  have hN := Config.ringN_pos s.cfg
  unfold available ringIndex
  rw [h.prod, h.cons, Nat.mod_mod]
  obtain ⟨d, hd⟩ : ∃ d, s.produced = s.consumed + d := ⟨s.produced - s.consumed, by have := h.order; omega⟩
  rw [hd, Nat.add_sub_cancel_left]
  have hc : s.consumed % s.cfg.ringN < s.cfg.ringN := Nat.mod_lt _ hN
  have e : s.cfg.ringN - s.consumed % s.cfg.ringN + s.consumed % s.cfg.ringN = s.cfg.ringN := by omega
  have h1 : (s.consumed + d) % s.cfg.ringN + (s.cfg.ringN - s.consumed % s.cfg.ringN) ≡
      d [MOD s.cfg.ringN] := by
    have h2 : (s.consumed + d) % s.cfg.ringN ≡ s.consumed % s.cfg.ringN + d [MOD s.cfg.ringN] :=
      (Nat.mod_modEq _ _).trans ((Nat.mod_modEq _ _).symm.add_right d)
    refine (h2.add_right _).trans ?_
    have e2 : s.consumed % s.cfg.ringN + d + (s.cfg.ringN - s.consumed % s.cfg.ringN) =
        d + s.cfg.ringN := by omega
    rw [e2]
    simp [Nat.ModEq]
  exact h1

theorem available_lt (s : State) : available s < s.cfg.ringN := Nat.mod_lt _ (Config.ringN_pos _)

/-- The unread bytes depend on the ring and its cursors alone (R71, R122). -/
theorem unread_congr {s t : State} (h1 : t.cfg = s.cfg) (h2 : t.ring = s.ring)
    (h3 : t.prodCursor = s.prodCursor) (h4 : t.consCursor = s.consCursor) : unread t = unread s := by
  simp [unread, ringBytes, ringRead, ringIndex, available, h1, h2, h3, h4]

/-- Equal cursors leave nothing unread (R71). -/
theorem unread_of_eq_cursors {s : State} (h : s.prodCursor = s.consCursor) : unread s = [] := by
  have hc := Nat.mod_lt s.consCursor (Config.ringN_pos s.cfg)
  have h0 : available s = 0 := by
    simp only [available, ringIndex, h]
    rw [Nat.add_mod, ← Nat.mod_mod s.consCursor s.cfg.ringN, ← Nat.add_mod, Nat.mod_mod,
      Nat.add_sub_of_le (le_of_lt hc), Nat.mod_self]
  simp [unread, ringBytes, h0]

@[simp] theorem length_ringBytes (s : State) (n : Nat) : (ringBytes s n).length = n := by
  simp [ringBytes]

@[simp] theorem length_streamBytes (s : State) (a n : Nat) : (streamBytes s a n).length = n := by
  simp [streamBytes]

theorem parseBytes_nil (s : State) : parseBytes [] s = s := rfl

theorem parseBytes_cons (b : Byte) (bs : List Byte) (s : State) :
    parseBytes (b :: bs) s = parseBytes bs (parse b s) := rfl

theorem parseBytes_append (xs ys : List Byte) (s : State) :
    parseBytes (xs ++ ys) s = parseBytes ys (parseBytes xs s) := List.foldl_append

/-- What PARSE keeps for one byte, it keeps for a batch (R124). -/
theorem parseBytes_induction {P : State → Prop} (h : ∀ b s, P s → P (parse b s)) (bs : List Byte)
    (s : State) (hs : P s) : P (parseBytes bs s) := by
  induction bs generalizing s with
  | nil => exact hs
  | cons b bs ih => exact ih _ (h b s hs)

end Sys2Proof.Machine
end

