-- ==== Sys2Proof/Laws/Exec.lean ====
section
/-! SUPPORT. For each operation, when it answers a next state and which: the lemmas that stand for the
unfolding of a meaning. -/

namespace Sys2Proof.Machine

variable {s t : State}

theorem exec_modeNarrow_eq_next (k : LetterCase) :
    exec (.modeNarrow k) s = .next t ↔ Running s ∧ modeSwitch .narrow s = t :=
  attempt_eq_next.trans (by simp)

theorem exec_modeWide_eq_next (k : LetterCase) :
    exec (.modeWide k) s = .next t ↔ Running s ∧ modeSwitch .wide s = t :=
  attempt_eq_next.trans (by simp)

theorem exec_modeSwitch_eq_next (v : Variant) :
    exec (.modeSwitch v) s = .next t ↔ Running s ∧ modeSwitch v s = t :=
  attempt_eq_next.trans (by simp)

theorem exec_status_eq_next (k : LetterCase) :
    exec (.status k) s = .next t ↔ Running s ∧ statusReport s = t :=
  attempt_eq_next.trans (by simp)

theorem exec_clearStats_eq_next (k : LetterCase) :
    exec (.clearStats k) s = .next t ↔ Running s ∧ clearStats s = t :=
  attempt_eq_next.trans (by simp)

theorem exec_fwUpdate_eq_next (k : LetterCase) :
    exec (.fwUpdate k) s = .next t ↔ Running s ∧ firmwareUpdate s = t :=
  attempt_eq_next.trans (by simp)

theorem exec_ignore_eq_next (c : Byte) :
    exec (.ignore c) s = .next t ↔ Running s ∧ isCommandByte c = false ∧ emit .commandIgnored s = t :=
  attempt_eq_next.trans (by simp [Instr.wf])

theorem exec_produce_eq_next (b : Byte) :
    exec (.produce b) s = .next t ↔ Running s ∧ s.captureEnabled = true ∧ producer b s = t :=
  attempt_eq_next

theorem exec_consume_eq_next :
    exec .consume s = .next t ↔
      Running s ∧ (batchSize s = 0 ∨ recordOpen s = true) ∧ consumer s = t := by
  refine whenRunning_eq_next.trans ?_
  split <;> simp_all

theorem exec_parseSfs_eq_next (b : Byte) :
    exec (.parseSfs b) s = .next t ↔ Running s ∧ s.pstate = .scanningForSync ∧ parseSfs b s = t :=
  attempt_eq_next.trans (by simp)

theorem exec_parseRlAccumulate_eq_next (b : Byte) :
    exec (.parseRlAccumulate b) s = .next t ↔
      Running s ∧ s.pstate = .readingLine ∧ recordOpen s = true ∧ parseRl b s = t := by
  refine whenRunning_eq_next.trans ?_
  split
  · split <;> simp_all
  · simp_all

theorem exec_parseRlRowInRange_eq_next :
    exec .parseRlRowInRange s = .next t ↔
      Running s ∧ (rowDue s && rowInRange s) = true ∧ rowAccepted s = t := attempt_eq_next

theorem exec_parseRlRowLocked_eq_next :
    exec .parseRlRowLocked s = .next t ↔
      Running s ∧ (rowDue s && !rowInRange s && s.frameLocked) = true ∧ rowLocked s = t :=
  attempt_eq_next

theorem exec_parseRlRowFalseSync_eq_next :
    exec .parseRlRowFalseSync s = .next t ↔
      Running s ∧
        (rowDue s && !rowInRange s && !s.frameLocked && decide (rowByte s = s.cfg.sync)) = true ∧
        rowFalseSync s = t := attempt_eq_next

theorem exec_parseRlRowFallback_eq_next :
    exec .parseRlRowFallback s = .next t ↔
      Running s ∧
        (rowDue s && !rowInRange s && !s.frameLocked && decide (rowByte s ≠ s.cfg.sync)) = true ∧
        rowFallback s = t := attempt_eq_next

theorem exec_parseRlComplete_eq_next :
    exec .parseRlComplete s = .next t ↔
      Running s ∧ (s.pstate = .readingLine ∧ s.lineCount = s.desc.recordSize) ∧ complete s = t :=
  attempt_eq_next.trans (by simp)

theorem exec_parseRlCrcMismatch_eq_next :
    exec .parseRlCrcMismatch s = .next t ↔
      Running s ∧ (crcDue s = true ∧ crcCalc s ≠ crcField s) ∧ crcMismatch s = t :=
  attempt_eq_next.trans (by simp)

theorem exec_parseRlCrcMatch_eq_next :
    exec .parseRlCrcMatch s = .next t ↔
      Running s ∧ (crcDue s = true ∧ crcCalc s = crcField s) ∧ crcMatch s = t :=
  attempt_eq_next.trans (by simp)

theorem exec_parseSgSync_eq_next (b : Byte) :
    exec (.parseSgSync b) s = .next t ↔
      Running s ∧ (s.pstate = .scanningGap ∧ b = s.cfg.sync) ∧ openRecord b s = t :=
  attempt_eq_next.trans (by simp)

theorem exec_parseSgFill_eq_next (b : Byte) :
    exec (.parseSgFill b) s = .next t ↔
      Running s ∧ ((s.pstate = .scanningGap ∧ b ≠ s.cfg.sync) ∧ 2 ≤ s.gapRemaining) ∧ gapFill s = t :=
  attempt_eq_next.trans (by simp)

theorem exec_parseSgExhaust_eq_next (b : Byte) :
    exec (.parseSgExhaust b) s = .next t ↔
      Running s ∧ ((s.pstate = .scanningGap ∧ b ≠ s.cfg.sync) ∧ s.gapRemaining ≤ 1) ∧
        gapExhaust s = t :=
  attempt_eq_next.trans (by simp)

theorem exec_handleLine_eq_next (row : Byte) (bytes : List Byte) :
    exec (.handleLine row bytes) s = .next t ↔
      Running s ∧ (row.toNat < s.desc.totalLines ∧ bytes.length = s.desc.width) ∧
        handleLine row bytes s = t :=
  attempt_eq_next.trans (by simp [Instr.wf])

theorem exec_boundaryDrop_eq_next (row : Byte) :
    exec (.boundaryDrop row) s = .next t ↔
      Running s ∧ ((row.toNat < s.desc.totalLines ∧ isBoundary s row = true) ∧ s.pending = true) ∧
        boundaryDrop s = t :=
  attempt_eq_next.trans (by simp [Instr.wf])

theorem exec_boundaryHandoff_eq_next (row : Byte) :
    exec (.boundaryHandoff row) s = .next t ↔
      Running s ∧ ((row.toNat < s.desc.totalLines ∧ isBoundary s row = true) ∧ s.pending = false) ∧
        boundaryHandoff s = t :=
  attempt_eq_next.trans (by simp [Instr.wf])

theorem exec_place_eq_next (row : Byte) (bytes : List Byte) :
    exec (.place row bytes) s = .next t ↔
      Running s ∧ (row.toNat < s.desc.height ∧ bytes.length = s.desc.width) ∧
        placeLine row bytes s = t :=
  attempt_eq_next.trans (by simp [Instr.wf])

theorem exec_pollIdle_eq_next : exec .pollIdle s = .next t ↔ Running s ∧ s.pending = false ∧ s = t :=
  attempt_eq_next.trans (by simp)

theorem exec_pollDisconnect_eq_next :
    exec .pollDisconnect s = .next t ↔ Running s ∧ s.pending = true ∧ sendAbandon s = t :=
  attempt_eq_next

theorem exec_pollWrite_eq_next (room accepted : Nat) :
    exec (.pollWrite room accepted) s = .next t ↔
      Running s ∧ s.pending = true ∧ (offerSize room s = 0 ∨ accepted ≤ offerSize room s) ∧
        sendPoll room accepted s = t := by
  refine whenRunning_eq_next.trans ?_
  split
  · split
    · simp_all; omega
    · simp_all; omega
  · simp_all

theorem exec_pollComplete_eq_next :
    exec .pollComplete s = .next t ↔
      Running s ∧ (s.pending = true ∧ s.sendCursor = packetSize s) ∧ sendComplete s = t :=
  attempt_eq_next.trans (by simp)

/-- A decoded command runs the row it names (R222). -/
theorem execCommand_eq (c : Command) (s : State) : execCommand c s = exec c.instr s := by
  cases c <;> rfl

/-- CMD takes the oldest byte and runs what it decodes to (R222). -/
theorem exec_cmd_eq_next :
    exec .cmd s = .next t ↔ Running s ∧ ∃ c rest, s.cmdQueue = c :: rest ∧
      exec (decodeCommand c).instr (setQueue rest s) = .next t := by
  refine whenRunning_eq_next.trans ?_
  split <;> simp_all [execCommand_eq]

/-- HOST's append (R55). -/
theorem hostByte_eq_next (c : Byte) :
    hostByte c s = .next t ↔ Running s ∧ setQueue (s.cmdQueue ++ [c]) s = t :=
  attempt_eq_next.trans (by simp)

/-- The boot step, and a step with a move (R280, R221). -/
theorem step_eq (s : State) : step s =
    if s.booting then exec (.modeSwitch s.cfg.initialVariant) { s with booting := false }
    else runMove (nextMove s) (takeMove s) := rfl

end Sys2Proof.Machine
end

