-- ==== Sys2Proof/Laws/PerInstr.lean ====
section
/-! SUPPORT. The family EncodingLength, one lemma for each constructor of `Instr`: an operation that is
encoded is one byte long (30_encoding.md rules R102, R110). -/

namespace Sys2Proof.Laws

/-- The encoding of an operation, where it has one, is one byte. -/
def EncodingLength.Statement (i : Instr) : Prop := ∀ bytes, encode i = some bytes → bytes.length = 1

theorem EncodingLength.modeNarrow (k : LetterCase) :
    EncodingLength.Statement (.modeNarrow k) := by
  intro bytes h; cases h; rfl

theorem EncodingLength.modeWide (k : LetterCase) :
    EncodingLength.Statement (.modeWide k) := by
  intro bytes h; cases h; rfl

theorem EncodingLength.status (k : LetterCase) :
    EncodingLength.Statement (.status k) := by
  intro bytes h; cases h; rfl

theorem EncodingLength.clearStats (k : LetterCase) :
    EncodingLength.Statement (.clearStats k) := by
  intro bytes h; cases h; rfl

theorem EncodingLength.fwUpdate (k : LetterCase) :
    EncodingLength.Statement (.fwUpdate k) := by
  intro bytes h; cases h; rfl

theorem EncodingLength.ignore (c : Byte) :
    EncodingLength.Statement (.ignore c) := by
  intro bytes h; cases h; rfl

theorem EncodingLength.produce (b : Byte) :
    EncodingLength.Statement (.produce b) := by
  intro bytes h; cases h

theorem EncodingLength.consume :
    EncodingLength.Statement .consume := by
  intro bytes h; cases h

theorem EncodingLength.parseSfs (b : Byte) :
    EncodingLength.Statement (.parseSfs b) := by
  intro bytes h; cases h

theorem EncodingLength.parseRlAccumulate (b : Byte) :
    EncodingLength.Statement (.parseRlAccumulate b) := by
  intro bytes h; cases h

theorem EncodingLength.parseRlRowInRange :
    EncodingLength.Statement .parseRlRowInRange := by
  intro bytes h; cases h

theorem EncodingLength.parseRlRowLocked :
    EncodingLength.Statement .parseRlRowLocked := by
  intro bytes h; cases h

theorem EncodingLength.parseRlRowFalseSync :
    EncodingLength.Statement .parseRlRowFalseSync := by
  intro bytes h; cases h

theorem EncodingLength.parseRlRowFallback :
    EncodingLength.Statement .parseRlRowFallback := by
  intro bytes h; cases h

theorem EncodingLength.parseRlComplete :
    EncodingLength.Statement .parseRlComplete := by
  intro bytes h; cases h

theorem EncodingLength.parseRlCrcMismatch :
    EncodingLength.Statement .parseRlCrcMismatch := by
  intro bytes h; cases h

theorem EncodingLength.parseRlCrcMatch :
    EncodingLength.Statement .parseRlCrcMatch := by
  intro bytes h; cases h

theorem EncodingLength.parseSgSync (b : Byte) :
    EncodingLength.Statement (.parseSgSync b) := by
  intro bytes h; cases h

theorem EncodingLength.parseSgFill (b : Byte) :
    EncodingLength.Statement (.parseSgFill b) := by
  intro bytes h; cases h

theorem EncodingLength.parseSgExhaust (b : Byte) :
    EncodingLength.Statement (.parseSgExhaust b) := by
  intro bytes h; cases h

theorem EncodingLength.handleLine (row : Byte) (payload : List Byte) :
    EncodingLength.Statement (.handleLine row payload) := by
  intro bytes h; cases h

theorem EncodingLength.boundaryDrop (row : Byte) :
    EncodingLength.Statement (.boundaryDrop row) := by
  intro bytes h; cases h

theorem EncodingLength.boundaryHandoff (row : Byte) :
    EncodingLength.Statement (.boundaryHandoff row) := by
  intro bytes h; cases h

theorem EncodingLength.place (row : Byte) (payload : List Byte) :
    EncodingLength.Statement (.place row payload) := by
  intro bytes h; cases h

theorem EncodingLength.pollIdle :
    EncodingLength.Statement .pollIdle := by
  intro bytes h; cases h

theorem EncodingLength.pollDisconnect :
    EncodingLength.Statement .pollDisconnect := by
  intro bytes h; cases h

theorem EncodingLength.pollWrite (room accepted : Nat) :
    EncodingLength.Statement (.pollWrite room accepted) := by
  intro bytes h; cases h

theorem EncodingLength.pollComplete :
    EncodingLength.Statement .pollComplete := by
  intro bytes h; cases h

theorem EncodingLength.cmd :
    EncodingLength.Statement .cmd := by
  intro bytes h; cases h

theorem EncodingLength.modeSwitch (v : Variant) :
    EncodingLength.Statement (.modeSwitch v) := by
  intro bytes h; cases h

end Sys2Proof.Laws
end

