-- ==== Sys2Proof/Laws/Record.lean ====
section
/-! SUPPORT. The halves of a 16-bit value, and how the parser fills the line buffer: the bytes between
the row byte and the last one (R143), and the last one (R148). -/

namespace Sys2Proof

/-- A 16-bit value is its two halves (R11). -/
@[simp] theorem halfOf_highByte_lowByte (h : Half) : halfOf (highByte h) (lowByte h) = h := by
  apply BitVec.eq_of_getLsbD_eq
  intro i hi
  show BitVec.getLsbD (highByte h ++ lowByte h : BitVec (8 + 8)) i = _
  rw [BitVec.getLsbD_append]
  simp only [highByte, lowByte]
  split
  · simp; omega
  · simp
    have : 8 + (i - 8) = i := by omega
    rw [this]; simp; omega

/-- The CRC field read back from its two wire bytes (R94). -/
theorem CrcOrder.field_bytes (o : CrcOrder) (crc : Half) :
    ∃ x y, o.bytes crc = [x, y] ∧ o.field x y = crc := by
  cases o
  · exact ⟨_, _, rfl, halfOf_highByte_lowByte crc⟩
  · exact ⟨_, _, rfl, halfOf_highByte_lowByte crc⟩

/-- The high byte of a number below 2^16 (R99). -/
theorem highByte_ofNat (n : Nat) : highByte (BitVec.ofNat 16 n) = BitVec.ofNat 8 (n / 256) := by
  apply BitVec.eq_of_toNat_eq
  simp [highByte, Nat.shiftRight_eq_div_pow]
  omega

/-- The low byte of a number (R99). -/
theorem lowByte_ofNat (n : Nat) : lowByte (BitVec.ofNat 16 n) = BitVec.ofNat 8 n := by
  apply BitVec.eq_of_toNat_eq
  simp [lowByte]

end Sys2Proof

namespace Sys2Proof.Machine

theorem Memory.writeBytes_append (xs ys : List Byte) (m : Memory) (a : Nat) :
    Memory.writeBytes m a (xs ++ ys) =
      Memory.writeBytes (Memory.writeBytes m a xs) (a + xs.length) ys := by
  induction xs generalizing m a with
  | nil => rfl
  | cons x xs ih =>
    simp only [List.cons_append, Memory.writeBytes, ih, List.length_cons]
    congr 1; omega

/-- A run of bytes written from address 0 reads back as the run, and as before after its end. -/
theorem Memory.read_writeBytes_zero {m : Memory} (bs : List Byte) (hm : m.wf = true) (a : Nat) :
    Memory.read (Memory.writeBytes m 0 bs) a = bs[a]?.getD (Memory.read m a) := by
  rw [Memory.read_writeBytes _ _ _ _ hm]
  by_cases h : a < bs.length
  · simp [h]
  · simp [h]

/-- Outside a record a sync byte starts one (R142, R152). -/
theorem parse_sync {s : State} (h : s.pstate ≠ .readingLine) :
    parse s.cfg.sync s = openRecord s.cfg.sync s := by
  unfold parse
  cases hp : s.pstate <;> simp_all [parseSfs, parseSg]

/-- The second byte of a record is stored and its row checked (R143, R144). -/
theorem parse_row {s : State} (b : Byte) (h : s.pstate = .readingLine) (h1 : s.lineCount = 1) :
    parse b s = rowCheck (accumulate b s) := by
  simp [parse, h, parseRl, h1]

/-- Bytes of a record after the row byte and short of its end are stored and nothing else (R143). -/
theorem parseBytes_store (bs : List Byte) (s : State) (hp : s.pstate = .readingLine)
    (h2 : 2 ≤ s.lineCount) (hl : s.lineCount + bs.length < s.desc.recordSize) :
    parseBytes bs s = { s with
      lineBuf := Memory.writeBytes s.lineBuf s.lineCount bs
      lineCount := s.lineCount + bs.length } := by
  induction bs generalizing s with
  | nil => rfl
  | cons b bs ih =>
    simp only [List.length_cons] at hl ⊢
    have : parse b s = accumulate b s := by
      have h3 : ¬ s.lineCount + 1 = 2 := by omega
      have h4 : ¬ s.lineCount + 1 = s.desc.recordSize := by omega
      simp only [parse, hp, parseRl, accumulate_lineCount, accumulate_desc, h3, h4, if_false]
    rw [parseBytes_cons, this, ih _ (by simpa using hp) (by simp; omega) (by simp; omega)]
    simp only [accumulate, Memory.writeBytes, lineWrite]
    congr 1; omega

/-- The last byte of a record is stored and completes it (R143, R148). -/
theorem parse_last (b : Byte) (s : State) (hp : s.pstate = .readingLine) (h2 : s.lineCount + 1 ≠ 2)
    (hl : s.lineCount + 1 = s.desc.recordSize) : parse b s = complete (accumulate b s) := by
  simp only [parse, hp, parseRl, accumulate_lineCount, accumulate_desc, hl, if_true]
  rw [if_neg (by omega)]

end Sys2Proof.Machine
end

