-- ==== Sys2Proof/Laws/Step.lean ====
section
/-! SUPPORT. What one step can do, said once. -/

namespace Sys2Proof.Machine

/-- What a decoded command can do, and which command does it (R222). -/
theorem exec_command_cases {c : Command} {s t : State} (h : exec c.instr s = .next t) :
    (∃ k, c = .modeNarrow k ∧ t = modeSwitch .narrow s) ∨
    (∃ k, c = .modeWide k ∧ t = modeSwitch .wide s) ∨
    (∃ k, c = .status k ∧ t = statusReport s) ∨
    (∃ k, c = .clearStats k ∧ t = clearStats s) ∨
    (∃ k, c = .fwUpdate k ∧ t = firmwareUpdate s) ∨
    (∃ b, c = .ignore b ∧ t = emit .commandIgnored s) := by
  cases c with
  | modeNarrow k => exact .inl ⟨k, rfl, ((exec_modeNarrow_eq_next k).mp h).2.symm⟩
  | modeWide k => exact .inr (.inl ⟨k, rfl, ((exec_modeWide_eq_next k).mp h).2.symm⟩)
  | status k => exact .inr (.inr (.inl ⟨k, rfl, ((exec_status_eq_next k).mp h).2.symm⟩))
  | clearStats k => exact .inr (.inr (.inr (.inl ⟨k, rfl, ((exec_clearStats_eq_next k).mp h).2.symm⟩)))
  | fwUpdate k =>
    exact .inr (.inr (.inr (.inr (.inl ⟨k, rfl, ((exec_fwUpdate_eq_next k).mp h).2.symm⟩))))
  | ignore b =>
    exact .inr (.inr (.inr (.inr (.inr ⟨b, rfl, ((exec_ignore_eq_next b).mp h).2.2.symm⟩))))

/-- Everything a step that goes on can have been: the boot step, PRODUCE, CONSUME, the three POLLs, CMD
or HOST's append, each with what it needed (R280, R221, R7). -/
inductive StepCase (s t : State) : Prop where
  | boot (h : s.booting = true)
      (e : t = modeSwitch s.cfg.initialVariant { s with booting := false })
  | produce (b : Byte) (h : s.booting = false) (m : nextMove s = .produce b)
      (capture : s.captureEnabled = true) (e : t = producer b (takeMove s))
  | consume (h : s.booting = false) (m : nextMove s = .consume) (e : t = consumer (takeMove s))
  | idle (a : ChannelAnswer) (h : s.booting = false) (m : nextMove s = .poll a)
      (p : s.pending = false) (e : t = takeMove s)
  | disconnect (a : ChannelAnswer) (h : s.booting = false) (m : nextMove s = .poll a)
      (p : s.pending = true) (e : t = sendAbandon (takeMove s))
  | write (a : ChannelAnswer) (h : s.booting = false) (m : nextMove s = .poll a)
      (p : s.pending = true)
      (k : offerSize a.room (takeMove s) = 0 ∨ a.accepted ≤ offerSize a.room (takeMove s))
      (e : t = sendPoll a.room a.accepted (takeMove s))
  | cmd (c : Byte) (rest : List Byte) (h : s.booting = false) (m : nextMove s = .cmd)
      (q : s.cmdQueue = c :: rest)
      (e : exec (decodeCommand c).instr (setQueue rest (takeMove s)) = .next t)
  | host (c : Byte) (h : s.booting = false) (m : nextMove s = .hostByte c)
      (e : t = setQueue (s.cmdQueue ++ [c]) (takeMove s))

theorem step_cases {s t : State} (h : step s = .next t) : StepCase s t := by
  rw [step_eq] at h
  split at h
  · exact .boot ‹_› ((exec_modeSwitch_eq_next _).mp h).2.symm
  · rename_i hn
    have hb : s.booting = false := Bool.eq_false_iff.mpr hn
    generalize hm : nextMove s = m at h
    cases m with
    | produce b =>
      obtain ⟨_, hc, e⟩ := (exec_produce_eq_next b).mp h
      exact .produce b hb hm (by simpa using hc) e.symm
    | consume => exact .consume hb hm (exec_consume_eq_next.mp h).2.2.symm
    | poll a =>
      simp only [runMove, pollInstr, takeMove_pending] at h
      split at h
      · split at h
        · obtain ⟨_, h1, h2, h3⟩ := (exec_pollWrite_eq_next _ _).mp h
          exact .write a hb hm ‹_› h2 h3.symm
        · exact .disconnect a hb hm ‹_› (exec_pollDisconnect_eq_next.mp h).2.2.symm
      · rename_i hp
        exact .idle a hb hm (Bool.eq_false_iff.mpr hp) (exec_pollIdle_eq_next.mp h).2.2.symm
    | cmd =>
      obtain ⟨_, c, rest, q, e⟩ := exec_cmd_eq_next.mp h
      exact .cmd c rest hb hm (by simpa using q) e
    | hostByte c =>
      exact .host c hb hm (by simpa using ((hostByte_eq_next c).mp h).2.symm)

end Sys2Proof.Machine
end

