-- ==== Sys2Proof/Tests/Slice0.lean ====
section
/-! SUPPORT. Tests of the model: the well-formedness checks, the encodings and the CRC table as the spec
writes them out, one-step tests taken from 95_test_vectors.md (under TC), and for each statement with
premises a state and operands that meet them. -/

namespace Sys2Proof.Tests

open Sys2Proof.Machine

/-! ## Small states and what is read off an outcome -/

/-- TC between two steps: the cold start of R60, booted, with nothing recorded yet. -/
def cold : State := { State.reset with booting := false }

/-- `cold` with these bytes produced and unread. -/
def holding (bs : List Byte) : State :=
  { cold with ring := Memory.writeBytes [] 0 bs, prodCursor := bs.length, produced := bs.length }

/-- `cold` inside a record whose first bytes are these. -/
def reading (bs : List Byte) : State :=
  { cold with lineBuf := Memory.writeBytes [] 0 bs, lineCount := bs.length, pstate := .readingLine }

/-- `cold` between records, locked, with this gap budget left. -/
def gap (n : Nat) : State := { cold with pstate := .scanningGap, frameLocked := true, gapRemaining := n }

/-- `cold` under another configuration. -/
def under (c : Config) : State := { cold with cfg := c }

/-- The pixels of a whole frame of TC (program P1). -/
def pixels : List Byte := [1, 2, 3, 4, 0x10, 0x11, 0x12, 0x13, 0x20, 0x21, 0x22, 0x23]

/-- `cold` with the frame of P1 complete in buffer 0, after row 2. -/
def assembled : State :=
  { cold with
    bufPing := Memory.writeBytes [] 0 pixels, placed := 7, placedCount := 3, prevRow := 2, frameId := 1 }

/-- The state V-F2: the frame of P1 in the pending-send slot, `cursor` of its bytes sent. -/
def sending (cursor : Nat) : State :=
  { cold with
    bufPing := Memory.writeBytes [] 0 pixels, active := .pong, pending := true, frameId := 1
    hdr := #v[0xAB, 0xCD, 1, 0, 4, 0, 3, 0], sendCursor := cursor }

/-- `sending`, with rows 0 and 1 of the next frame placed. -/
def busy : State := { sending 0 with bufPong := [(0, 9), (4, 8)], placed := 3, placedCount := 2, prevRow := 1 }

/-- `cold` after the firmware-update handoff. -/
def handedOff : State := { cold with terminal := true }

/-- What the next state holds, if there is one. -/
def after {α : Type} (o : Host.Outcome State Fault Refusal) (f : State → α) : Option α :=
  match o with
  | .next s => some (f s)
  | .fault _ => none
  | .refused _ => none

/-- The refusal, if it is one. -/
def refusal (o : Host.Outcome State Fault Refusal) : Option Refusal :=
  match o with
  | .next _ => none
  | .fault _ => none
  | .refused r => some r

/-- The fault, if it is one. -/
def faulted (o : Host.Outcome State Fault Refusal) : Option Fault :=
  match o with
  | .next _ => none
  | .fault f => some f
  | .refused _ => none

/-- The twelve pixels of a buffer under TC's narrow variant, in row-major order. -/
def grid (s : State) (k : BufferId) : List Byte := Memory.readBytes (buffer s k) 0 12

/-! ## Well-formedness: every check of R9 refuses an ill-formed configuration -/

/-- TC with another narrow descriptor. -/
def narrowWith (d : Descriptor) : Config := { Config.testConfiguration with narrow := d }

theorem test_wf_tc : Config.testConfiguration.wf = true := by decide
theorem test_wf1_ring_of_one_byte : { Config.testConfiguration with ringBits := 0 }.wf = false := by decide
theorem test_wf2_no_batch : { Config.testConfiguration with batchMax := 0 }.wf = false := by decide
theorem test_wf3_no_gap : { Config.testConfiguration with maxGap := 0 }.wf = false := by decide
theorem test_wf4_no_width : (narrowWith ⟨0, 3, 5, 0, .direct⟩).wf = false := by decide
theorem test_wf4_no_height : (narrowWith ⟨4, 0, 5, 0, .direct⟩).wf = false := by decide
theorem test_wf4_height_above_total : (narrowWith ⟨4, 6, 5, 0, .direct⟩).wf = false := by decide
theorem test_wf4_total_above_256 : (narrowWith ⟨4, 3, 257, 0, .mask 0⟩).wf = false := by decide
theorem test_wf4_width_above_16_bits : (narrowWith ⟨65536, 3, 5, 0, .direct⟩).wf = false := by decide
theorem test_wf4_height_above_16_bits : (narrowWith ⟨4, 65536, 65536, 0, .direct⟩).wf = false := by decide
theorem test_wf4_wide :
    { Config.testConfiguration with wide := ⟨0, 2, 2, 0, .direct⟩ }.wf = false := by decide
theorem test_wf6_sync_is_a_row : { Config.testConfiguration with sync := 4 }.wf = false := by decide
theorem test_wf6_sync_at_the_bound : { Config.testConfiguration with sync := 5 }.wf = true := by decide
theorem test_wf_ignore_of_a_command : (Instr.ignore 0x4E).wf cold.desc = false := by decide
theorem test_wf_ignore : (Instr.ignore 0xCE).wf cold.desc = true := by decide
theorem test_wf_handle_line_row : (Instr.handleLine 5 [1, 2, 3, 4]).wf cold.desc = false := by decide
theorem test_wf_handle_line_length : (Instr.handleLine 4 [1, 2, 3]).wf cold.desc = false := by decide
theorem test_wf_boundary_drop_row : (Instr.boundaryDrop 5).wf cold.desc = false := by decide
theorem test_wf_boundary_handoff_row : (Instr.boundaryHandoff 5).wf cold.desc = false := by decide
theorem test_wf_place_row : (Instr.place 3 [1, 2, 3, 4]).wf cold.desc = false := by decide
theorem test_wf_place_length : (Instr.place 2 [1, 2, 3, 4, 5]).wf cold.desc = false := by decide
theorem test_ill_formed_configuration_is_refused :
    refusal (exec .consume (under { Config.testConfiguration with maxGap := 0 })) = some .illFormedConfig := by
  decide

/-! ## Decode: the command bytes of R102, written out -/

theorem test_decode_N : decode [0b01001110] = .ok (.modeNarrow .upper, []) := rfl
theorem test_decode_n : decode [0b01101110] = .ok (.modeNarrow .lower, []) := rfl
theorem test_decode_O : decode [0b01001111] = .ok (.modeWide .upper, []) := rfl
theorem test_decode_o : decode [0b01101111] = .ok (.modeWide .lower, []) := rfl
theorem test_decode_S : decode [0b01010011] = .ok (.status .upper, []) := rfl
theorem test_decode_s : decode [0b01110011] = .ok (.status .lower, []) := rfl
theorem test_decode_R : decode [0b01010010] = .ok (.clearStats .upper, []) := rfl
theorem test_decode_r : decode [0b01110010] = .ok (.clearStats .lower, []) := rfl
theorem test_decode_B : decode [0b01000010] = .ok (.fwUpdate .upper, []) := rfl
theorem test_decode_b : decode [0b01100010] = .ok (.fwUpdate .lower, []) := rfl
/-- 95_test_vectors.md section 2.6: the ignored bytes, one bit away from a command among them. -/
theorem test_decode_ignored :
    [0x78, 0x58, 0x0E, 0xCE, 0xEE, 0x00, 0xFF].map decodeCommand =
      [.ignore 0x78, .ignore 0x58, .ignore 0x0E, .ignore 0xCE, .ignore 0xEE, .ignore 0x00,
        .ignore 0xFF] := by decide
theorem test_decode_takes_one_byte : decode [0x4F, 0x42] = .ok (.modeWide .upper, [0x42]) := rfl
theorem test_decode_nothing : decode [] = .error .noCommandByte := rfl
theorem test_table_word : decodeTableWord 8 0x6F = some (.modeWide .lower) := by decide
theorem test_table_word_without_bits : decodeTableWord 0 0 = none := by decide
theorem test_encode_b : encode (.fwUpdate .lower) = some [0x62] := by decide

/-! ## The line record and the header -/

/-- L1 of 95_test_vectors.md section 0, in both orders of the CRC field. -/
theorem test_line_record :
    goodRecord Config.testConfiguration 1 [0x10, 0x11, 0x12, 0x13] =
        [0xA5, 1, 0x10, 0x11, 0x12, 0x13, 0xAC, 0x77] ∧
      goodRecord { Config.testConfiguration with crcOrder := .lowFirst } 1 [0x10, 0x11, 0x12, 0x13] =
        [0xA5, 1, 0x10, 0x11, 0x12, 0x13, 0x77, 0xAC] := by decide
/-- S11 of 95_test_vectors.md: W = 256, H = 64, identifier 0x1234. -/
theorem test_header :
    headerBytes Config.testConfiguration ⟨256, 64, 64, 0, .direct⟩ 0x1234 =
      #v[0xAB, 0xCD, 0x34, 0x12, 0x00, 0x01, 0x40, 0x00] := by decide
/-- 0x82 & 0x7F = 2 (V-P19). -/
theorem test_row_decode : Config.testConfiguration.wide.row 0x82 = 2 := by decide

/-! ## CRC-16: the table of R96 as the spec prints it, and the vectors of 95_test_vectors.md 2.1 -/

/-- Row `n` of the table: the entries `16 n` to `16 n + 15`. -/
def crcRow (n : Nat) : List Half := (List.range 16).map (fun i => crcTable (BitVec.ofNat 8 (16 * n + i)))

theorem test_crc_row_0 : crcRow 0x0 =
    [0x0000, 0x1021, 0x2042, 0x3063, 0x4084, 0x50A5, 0x60C6, 0x70E7,
      0x8108, 0x9129, 0xA14A, 0xB16B, 0xC18C, 0xD1AD, 0xE1CE, 0xF1EF] := by decide
theorem test_crc_row_1 : crcRow 0x1 =
    [0x1231, 0x0210, 0x3273, 0x2252, 0x52B5, 0x4294, 0x72F7, 0x62D6,
      0x9339, 0x8318, 0xB37B, 0xA35A, 0xD3BD, 0xC39C, 0xF3FF, 0xE3DE] := by decide
theorem test_crc_row_2 : crcRow 0x2 =
    [0x2462, 0x3443, 0x0420, 0x1401, 0x64E6, 0x74C7, 0x44A4, 0x5485,
      0xA56A, 0xB54B, 0x8528, 0x9509, 0xE5EE, 0xF5CF, 0xC5AC, 0xD58D] := by decide
theorem test_crc_row_3 : crcRow 0x3 =
    [0x3653, 0x2672, 0x1611, 0x0630, 0x76D7, 0x66F6, 0x5695, 0x46B4,
      0xB75B, 0xA77A, 0x9719, 0x8738, 0xF7DF, 0xE7FE, 0xD79D, 0xC7BC] := by decide
theorem test_crc_row_4 : crcRow 0x4 =
    [0x48C4, 0x58E5, 0x6886, 0x78A7, 0x0840, 0x1861, 0x2802, 0x3823,
      0xC9CC, 0xD9ED, 0xE98E, 0xF9AF, 0x8948, 0x9969, 0xA90A, 0xB92B] := by decide
theorem test_crc_row_5 : crcRow 0x5 =
    [0x5AF5, 0x4AD4, 0x7AB7, 0x6A96, 0x1A71, 0x0A50, 0x3A33, 0x2A12,
      0xDBFD, 0xCBDC, 0xFBBF, 0xEB9E, 0x9B79, 0x8B58, 0xBB3B, 0xAB1A] := by decide
theorem test_crc_row_6 : crcRow 0x6 =
    [0x6CA6, 0x7C87, 0x4CE4, 0x5CC5, 0x2C22, 0x3C03, 0x0C60, 0x1C41,
      0xEDAE, 0xFD8F, 0xCDEC, 0xDDCD, 0xAD2A, 0xBD0B, 0x8D68, 0x9D49] := by decide
theorem test_crc_row_7 : crcRow 0x7 =
    [0x7E97, 0x6EB6, 0x5ED5, 0x4EF4, 0x3E13, 0x2E32, 0x1E51, 0x0E70,
      0xFF9F, 0xEFBE, 0xDFDD, 0xCFFC, 0xBF1B, 0xAF3A, 0x9F59, 0x8F78] := by decide
theorem test_crc_row_8 : crcRow 0x8 =
    [0x9188, 0x81A9, 0xB1CA, 0xA1EB, 0xD10C, 0xC12D, 0xF14E, 0xE16F,
      0x1080, 0x00A1, 0x30C2, 0x20E3, 0x5004, 0x4025, 0x7046, 0x6067] := by decide
theorem test_crc_row_9 : crcRow 0x9 =
    [0x83B9, 0x9398, 0xA3FB, 0xB3DA, 0xC33D, 0xD31C, 0xE37F, 0xF35E,
      0x02B1, 0x1290, 0x22F3, 0x32D2, 0x4235, 0x5214, 0x6277, 0x7256] := by decide
theorem test_crc_row_A : crcRow 0xA =
    [0xB5EA, 0xA5CB, 0x95A8, 0x8589, 0xF56E, 0xE54F, 0xD52C, 0xC50D,
      0x34E2, 0x24C3, 0x14A0, 0x0481, 0x7466, 0x6447, 0x5424, 0x4405] := by decide
theorem test_crc_row_B : crcRow 0xB =
    [0xA7DB, 0xB7FA, 0x8799, 0x97B8, 0xE75F, 0xF77E, 0xC71D, 0xD73C,
      0x26D3, 0x36F2, 0x0691, 0x16B0, 0x6657, 0x7676, 0x4615, 0x5634] := by decide
theorem test_crc_row_C : crcRow 0xC =
    [0xD94C, 0xC96D, 0xF90E, 0xE92F, 0x99C8, 0x89E9, 0xB98A, 0xA9AB,
      0x5844, 0x4865, 0x7806, 0x6827, 0x18C0, 0x08E1, 0x3882, 0x28A3] := by decide
theorem test_crc_row_D : crcRow 0xD =
    [0xCB7D, 0xDB5C, 0xEB3F, 0xFB1E, 0x8BF9, 0x9BD8, 0xABBB, 0xBB9A,
      0x4A75, 0x5A54, 0x6A37, 0x7A16, 0x0AF1, 0x1AD0, 0x2AB3, 0x3A92] := by decide
theorem test_crc_row_E : crcRow 0xE =
    [0xFD2E, 0xED0F, 0xDD6C, 0xCD4D, 0xBDAA, 0xAD8B, 0x9DE8, 0x8DC9,
      0x7C26, 0x6C07, 0x5C64, 0x4C45, 0x3CA2, 0x2C83, 0x1CE0, 0x0CC1] := by decide
theorem test_crc_row_F : crcRow 0xF =
    [0xEF1F, 0xFF3E, 0xCF5D, 0xDF7C, 0xAF9B, 0xBFBA, 0x8FD9, 0x9FF8,
      0x6E17, 0x7E36, 0x4E55, 0x5E74, 0x2E93, 0x3EB2, 0x0ED1, 0x1EF0] := by decide

theorem test_crc_empty : crc16 [] = 0xFFFF := by decide
theorem test_crc_00 : crc16 [0x00] = 0xE1F0 := by decide
theorem test_crc_00_00_00_00 : crc16 [0x00, 0x00, 0x00, 0x00] = 0x84C0 := by decide
theorem test_crc_01_02_03_04 : crc16 [0x01, 0x02, 0x03, 0x04] = 0x89C3 := by decide
theorem test_crc_10_11_12_13 : crc16 [0x10, 0x11, 0x12, 0x13] = 0xAC77 := by decide
theorem test_crc_20_21_22_23 : crc16 [0x20, 0x21, 0x22, 0x23] = 0x76FD := by decide
theorem test_crc_30_31_32_33 : crc16 [0x30, 0x31, 0x32, 0x33] = 0x3F7B := by decide
theorem test_crc_40_41_42_43 : crc16 [0x40, 0x41, 0x42, 0x43] = 0xD3C8 := by decide
theorem test_crc_50_51_52_53 : crc16 [0x50, 0x51, 0x52, 0x53] = 0x9A4E := by decide
theorem test_crc_FF_FF_FF_FF : crc16 [0xFF, 0xFF, 0xFF, 0xFF] = 0x1D0F := by decide
theorem test_crc_A5_A5_A5_A5 : crc16 [0xA5, 0xA5, 0xA5, 0xA5] = 0x835B := by decide
theorem test_crc_A5_A5_00_A5 : crc16 [0xA5, 0xA5, 0x00, 0xA5] = 0x61D0 := by decide
theorem test_crc_03_A5_00_01 : crc16 [0x03, 0xA5, 0x00, 0x01] = 0x5951 := by decide
theorem test_crc_05_06 : crc16 [0x05, 0x06] = 0x823C := by decide
theorem test_crc_07_08 : crc16 [0x07, 0x08] = 0x0590 := by decide
theorem test_crc_AA_BB : crc16 [0xAA, 0xBB] = 0xF90A := by decide
theorem test_crc_31_32_33_34_35_36_37_38_39 : crc16 [0x31, 0x32, 0x33, 0x34, 0x35, 0x36, 0x37, 0x38, 0x39] = 0x29B1 := by decide

/-! ## One step of each operation (vectors of 95_test_vectors.md under TC) -/

theorem test_reset_memory :
    State.reset.ring.wf = true ∧ State.reset.lineBuf.wf = true ∧ State.reset.bufPing.wf = true ∧
      State.reset.bufPong.wf = true := by decide
/-- R72: a write of what an unlisted address reads as leaves nothing listed. -/
theorem test_memory_canonical :
    Memory.write (Memory.write [(3, 7)] 1 5) 1 0 = [(3, 7)] ∧ Memory.write [(3, 7)] 5 2 = [(3, 7), (5, 2)] := by
  decide
/-- R280: the boot step, under TC. -/
theorem test_boot :
    after (step State.reset) (fun s => (s.variant, s.pstate, s.captureEnabled, s.booting, s.history)) =
      some (.narrow, .scanningForSync, true, false, [.modeSwitched .narrow 0]) := by decide
theorem test_fetch :
    after (step (State.reset.withFetchWord 8 0x6F)) (fun s => (s.variant, s.cmdQueue, s.agenda)) =
      some (.wide, [], []) := by decide
/-- V-B1. -/
theorem test_produce_wraps :
    after (exec (.produce 0xA5)
        { cold with prodCursor := 63, produced := 63, consCursor := 63, consumed := 63 })
      (fun s => (s.prodCursor, s.ring, available s, s.overrun)) = some (0, [(63, 0xA5)], 1, false) := by
  decide
/-- V-B9. -/
theorem test_produce_laps :
    after (exec (.produce 0) { cold with prodCursor := 63, produced := 63 })
      (fun s => (s.prodCursor, available s, s.overrun)) = some (0, 0, true) := by decide
/-- V-B2. -/
theorem test_available : available { cold with prodCursor := 3, consCursor := 60 } = 7 := by decide
/-- V-B4: the batch is BATCH_MAX bytes of 30. -/
theorem test_consume_batch :
    after (exec .consume { cold with prodCursor := 40, produced := 40, consCursor := 10, consumed := 10 })
      (fun s => (s.consCursor, s.consumed, s.stats.peakOccupancy, available s)) =
      some (26, 26, 30, 14) := by decide
/-- S1: L2 is placed at row 2 and nowhere else. -/
theorem test_consume_record :
    after (exec .consume (holding [0xA5, 2, 0x20, 0x21, 0x22, 0x23, 0x76, 0xFD]))
      (fun s => (grid s .ping, grid s .pong, s.stats.crcOk, s.gapRemaining)) =
      some ([0, 0, 0, 0, 0, 0, 0, 0, 0x20, 0x21, 0x22, 0x23], List.replicate 12 0, 1, 3) := by decide
/-- V-P1 and V-P2. -/
theorem test_parse_sfs :
    after (exec (.parseSfs 0) cold) (fun s => (s.pstate, s.lineCount, s.lineBuf)) =
        some (.scanningForSync, 0, []) ∧
      after (exec (.parseSfs 0xA5) cold) (fun s => (s.pstate, s.lineCount, s.lineBuf)) =
        some (.readingLine, 1, [(0, 0xA5)]) := by decide
/-- V-P3. -/
theorem test_parse_rl_stores :
    after (exec (.parseRlAccumulate 0x12) (reading [0xA5, 1, 0x10]))
      (fun s => (s.lineCount, lineByte s 3, s.pstate)) = some (4, 0x12, .readingLine) := by decide
/-- V-P10: the last byte of B0. -/
theorem test_parse_rl_last_byte :
    after (exec (.parseRlAccumulate 0xC2) (reading [0xA5, 0, 1, 2, 3, 4, 0x89]))
      (fun s => (s.stats.crcErr, s.pstate, s.gapRemaining, s.frameLocked, s.placedCount, s.lineCount)) =
      some (1, .scanningGap, 11, false, 0, 0) := by decide
/-- V-P4: row 4 is below T = 5. -/
theorem test_row_in_range :
    after (exec .parseRlRowInRange (reading [0xA5, 4])) (fun s => (s.rowAddr, s.lineCount, s.pstate)) =
      some (4, 2, .readingLine) := by decide
/-- V-P5. -/
theorem test_row_locked :
    after (exec .parseRlRowLocked { reading [0xA5, 7] with frameLocked := true })
      (fun s => (s.pstate, s.gapRemaining, s.frameLocked, s.lineCount, s.history)) =
      some (.scanningGap, 11, true, 0, [.rowRangeLocked 7]) := by decide
/-- The example of R146. -/
theorem test_row_false_sync :
    after (exec .parseRlRowFalseSync (reading [0xA5, 0xA5]))
      (fun s => (s.pstate, s.lineCount, s.history)) =
      some (.readingLine, 1, [.falseSync 0xA5]) := by decide
/-- V-P8: the example of R147. -/
theorem test_row_fallback :
    after (exec .parseRlRowFallback (reading [0xA5, 9])) (fun s => (s.pstate, s.lineCount, s.stats)) =
      some (.scanningForSync, 0, Stats.zero) := by decide
/-- V-P9, and V-P18: the same bytes under LowFirst do not match. -/
theorem test_complete :
    after (exec .parseRlComplete (reading [0xA5, 0, 1, 2, 3, 4, 0x89, 0xC3]))
        (fun s => (s.stats.crcOk, s.stats.crcErr, s.gapRemaining, grid s .ping)) =
        some (1, 0, 3, [1, 2, 3, 4, 0, 0, 0, 0, 0, 0, 0, 0]) ∧
      after (exec .parseRlComplete { reading [0xA5, 0, 1, 2, 3, 4, 0x89, 0xC3] with
          cfg := { Config.testConfiguration with crcOrder := .lowFirst } })
        (fun s => (s.stats.crcOk, s.stats.crcErr, s.gapRemaining, grid s .ping)) =
        some (0, 1, 11, List.replicate 12 0) := by decide
/-- The example of R150 (P2's event). -/
theorem test_crc_mismatch :
    after (exec .parseRlCrcMismatch { reading [0xA5, 0, 1, 2, 3, 4, 0x89, 0xC2] with lineCount := 0 })
      (fun s => (s.stats.crcErr, s.gapRemaining, s.pstate, s.history)) =
      some (1, 11, .scanningGap, [.crcMismatch 0 0x89C3 0x89C2]) := by decide
/-- The example of R151. -/
theorem test_crc_match :
    after (exec .parseRlCrcMatch { reading [0xA5, 0, 1, 2, 3, 4, 0x89, 0xC3] with lineCount := 0 })
      (fun s => (s.stats.crcOk, s.frameLocked, s.gapRemaining, s.placedCount)) = some (1, true, 3, 1) := by
  decide
/-- V-P12. -/
theorem test_sg_sync :
    after (exec (.parseSgSync 0xA5) (gap 3)) (fun s => (s.pstate, s.lineCount, s.gapRemaining)) =
      some (.readingLine, 1, 3) := by decide
/-- V-P13. -/
theorem test_sg_fill :
    after (exec (.parseSgFill 0) (gap 3)) (fun s => (s.pstate, s.gapRemaining, s.stats.gapBytes)) =
      some (.scanningGap, 2, 1) := by decide
/-- V-P14. -/
theorem test_sg_exhaust :
    after (exec (.parseSgExhaust 0) (gap 1))
      (fun s => (s.pstate, s.gapRemaining, s.frameLocked, s.stats.gapBytes, s.stats.resync)) =
      some (.scanningForSync, 0, false, 1, 1) := by decide
/-- V-F2: the boundary at L0b. -/
theorem test_handle_line_boundary :
    after (exec (.handleLine 0 [0x30, 0x31, 0x32, 0x33]) { assembled with frameId := 0 })
      (fun s => (s.hdr.toList, grid s .ping, grid s .pong, s.prevRow)) =
      some ([0xAB, 0xCD, 1, 0, 4, 0, 3, 0], pixels, [0x30, 0x31, 0x32, 0x33, 0, 0, 0, 0, 0, 0, 0, 0], 0) := by
  decide
/-- V-F4: the blanking row 3 is not placed, and becomes the previous row. -/
theorem test_handle_line_blanking :
    after (exec (.handleLine 3 [0xA5, 0xA5, 0xA5, 0xA5]) { cold with placed := 1, placedCount := 1 })
      (fun s => (s.bufPing, s.placedCount, s.prevRow, s.frameId)) = some ([], 1, 3, 0) := by decide
/-- V-F7: the reused buffer is cleared, the pending one is not. -/
theorem test_boundary_drop :
    after (exec (.boundaryDrop 0) busy)
      (fun s => (grid s .pong, grid s .ping, s.placedCount, s.history)) =
      some (List.replicate 12 0, pixels, 0, [.frameDropped 1]) := by decide
/-- The example of R175 and R176. -/
theorem test_boundary_handoff :
    after (exec (.boundaryHandoff 0) assembled)
      (fun s => (s.pending, s.active, s.hdr.toList, s.stats.framesSent, s.frameId)) =
      some (true, .pong, [0xAB, 0xCD, 1, 0, 4, 0, 3, 0], 1, 1) := by decide
/-- The examples of R178 and R179. -/
theorem test_place :
    after (exec (.place 2 [0x20, 0x21, 0x22, 0x23]) { cold with placed := 1, placedCount := 1 })
      (fun s => (s.bufPing, s.placed, s.placedCount)) =
      some ([(8, 0x20), (9, 0x21), (10, 0x22), (11, 0x23)], 5, 2) := by decide
/-- R179: a row placed again is not counted again. -/
theorem test_place_again :
    after (exec (.place 0 [1, 0, 0, 0]) { cold with placed := 1, placedCount := 1 })
      (fun s => (s.bufPing, s.placed, s.placedCount)) = some ([(0, 1)], 1, 1) := by decide
/-- V-S1. -/
theorem test_poll_idle : after (exec .pollIdle cold) (fun s => decide (s = cold)) = some true := by decide
/-- V-S5, the second POLL. -/
theorem test_poll_disconnect :
    after (exec .pollDisconnect (sending 12)) (fun s => (s.pending, s.sendCursor, s.history)) =
      some (false, 0, [.sendAbandoned]) := by decide
/-- V-S6, the second POLL: the rest, the release, one flush. -/
theorem test_poll_write_last :
    after (exec (.pollWrite 64 13) (sending 7))
      (fun s => (s.pending, s.sendCursor, s.stats.bytesForwarded, hostStream s == 0 :: pixels,
        s.history.drop 1)) = some (false, 0, 13, true, [.chanFlush, .frameSent]) := by decide
/-- V-S8. -/
theorem test_poll_write_contract :
    refusal (exec (.pollWrite 64 21) (sending 0)) = some .hostContract := by decide
/-- R205. -/
theorem test_poll_complete :
    after (exec .pollComplete (sending 20)) (fun s => (s.pending, s.sendCursor, s.history)) =
      some (false, 0, [.chanFlush, .frameSent]) := by decide
/-- V-M6. -/
theorem test_cmd_ignored :
    after (exec .cmd { cold with cmdQueue := [0x78, 0x4F] }) (fun s => (s.cmdQueue, s.variant, s.history)) =
      some ([0x4F], .narrow, [.commandIgnored]) := by decide
/-- V-M6 without the queue. -/
theorem test_ignore :
    after (exec (.ignore 0x78) cold) (fun s => decide ({ s with history := [] } = cold)) = some true := by
  decide
/-- V-M1: the full reset also where the variant is the same. -/
theorem test_mode_narrow :
    after (exec (.modeNarrow .upper) { sending 9 with prodCursor := 24, produced := 24 })
      (fun s => (s.pending, s.active, grid s .ping, s.prodCursor, s.frameId)) =
      some (false, .ping, List.replicate 12 0, 0, 1) := by decide
/-- V-M2. -/
theorem test_mode_wide :
    after (exec (.modeWide .lower) { reading [0xA5, 0, 1, 2, 3] with
        stats := { Stats.zero with peakOccupancy := 5 } })
      (fun s => (s.variant, s.pstate, s.lineCount, s.stats.peakOccupancy, s.desc.recordSize)) =
      some (.wide, .scanningForSync, 0, 5, 6) := by decide
/-- R225: the overrun ghost goes, the header stays. -/
theorem test_mode_switch :
    after (exec (.modeSwitch .wide) { sending 9 with overrun := true, frameLocked := true })
      (fun s => (s.overrun, s.frameLocked, s.hdr.toList, s.history)) =
      some (false, false, [0xAB, 0xCD, 1, 0, 4, 0, 3, 0], [.modeSwitched .wide 0]) := by decide
/-- V-M3. -/
theorem test_status :
    after (exec (.status .upper) { cold with stats := { Stats.zero with crcOk := 1, peakOccupancy := 8 } })
      (fun s => (s.history.take 1, s.stats.crcOk)) =
      some ([.status { Stats.zero with crcOk := 1, peakOccupancy := 8 }], 1) := by decide
/-- V-M4. -/
theorem test_clear_stats :
    after (exec (.clearStats .lower) { gap 3 with
        stats := { Stats.zero with crcOk := 7, peakOccupancy := 40 }, frameId := 9 })
      (fun s => (s.stats, s.frameId, s.gapRemaining)) = some (Stats.zero, 9, 3) := by decide
/-- V-M5. -/
theorem test_fw_update :
    after (exec (.fwUpdate .lower) (sending 9))
      (fun s => (s.terminal, s.pending, s.sendCursor, s.history.drop 1)) =
      some (true, true, 9, [.chanFlush, .firmwareUpdate]) := by decide
/-- R294. -/
theorem test_handed_off : refusal (exec .consume handedOff) = some .handedOff := by decide

/-! ## Witnesses: for each statement with premises, states and operands that meet them all -/

theorem running_cold : Running cold := ⟨by decide, rfl⟩

/-- `cold` with `p` bytes unread is sound, for every `p` the ring can hold, whatever the moves at hand. -/
theorem inv_unread (p : Nat) (hp : p < 64) (b : Bool) (ms : List Move := []) :
    Inv { cold with prodCursor := p, produced := p, booting := b, agenda := ms } := by
  have hN : cold.cfg.ringN = 64 := by decide
  refine ⟨(by decide : Config.testConfiguration.wf = true), ⟨rfl, rfl, rfl, rfl, rfl, rfl, rfl, rfl⟩,
    ⟨?_, ?_, ?_, ?_, rfl⟩, ?_, ?_, ?_⟩
  · show p = p % cold.cfg.ringN
    rw [hN]; omega
  · show 0 = 0 % cold.cfg.ringN
    rw [hN]
  · exact Nat.zero_le p
  · intro _
    show p - 0 < cold.cfg.ringN
    rw [hN]; omega
  · exact ⟨⟨fun h => ParserState.noConfusion h, fun h => absurd h.1 (Nat.not_succ_le_zero 0)⟩,
      fun _ => rfl, fun h => absurd h (Nat.not_succ_le_zero 1), fun h => ParserState.noConfusion h,
      Nat.zero_le _, fun _ => rfl⟩
  · refine ⟨(placedBelow_zero _).symm, fun r _ => by simp [isPlaced, cold, State.reset, State.coldStart],
      fun _ _ _ _ _ => rfl, fun r h => ?_⟩
    simp [isPlaced, cold, State.reset, State.coldStart] at h
  · exact ⟨fun _ => rfl, fun h => Bool.noConfusion h⟩

theorem witness_inv_cold : Inv cold := inv_unread 0 (by decide) false
theorem witness_inv_reset : Inv State.reset := inv_unread 0 (by decide) true

/-- `CommandDecodeAndEncodeAgree`. -/
theorem witness_decode_encode :
    (Instr.ignore 0x78).wf cold.desc = true ∧ encode (.ignore 0x78) = some [0x78] ∧
      (Instr.fwUpdate .lower).wf cold.desc = true ∧ encode (.fwUpdate .lower) = some [0x62] := by decide

/-- `ProduceStoresTheByteAndAdvancesTheCursor`: both values of the enable, and the last ring index. -/
theorem witness_produce :
    Running { cold with prodCursor := 63 } ∧ cold.ring.wf = true ∧ cold.captureEnabled = true ∧
      Running { cold with captureEnabled := false } ∧ handedOff.cfg.wf = true ∧ handedOff.terminal = true :=
  ⟨⟨by decide, rfl⟩, rfl, rfl, ⟨by decide, rfl⟩, by decide, rfl⟩

/-- `ConsumeParsesOneBatchInArrivalOrder`: outside a record, and at both ends of one. -/
theorem witness_consume :
    Running cold ∧ cold.pstate ≠ .readingLine ∧ Running (reading [0xA5]) ∧
      (1 ≤ (reading [0xA5]).lineCount ∧ (reading [0xA5]).lineCount < (reading [0xA5]).desc.recordSize) ∧
      (reading [0xA5, 0, 1, 2, 3, 4, 0x89]).lineCount + 1 =
        (reading [0xA5, 0, 1, 2, 3, 4, 0x89]).desc.recordSize :=
  ⟨running_cold, by decide, ⟨by decide, rfl⟩, by decide, by decide⟩

/-- `ConsumeLeavesProducerAndController`, with a frame pending. -/
theorem witness_consume_next : (sending 5).pending = true ∧ ∃ t, exec .consume (sending 5) = .next t :=
  ⟨rfl, _, rfl⟩

/-- `RingIsAFifoQueueWhileThereIsRoom`: 62 bytes unread, room for one more. -/
theorem witness_fifo :
    Inv { cold with prodCursor := 62, produced := 62 } ∧ cold.terminal = false ∧ cold.overrun = false ∧
      62 - cold.consumed + 1 < cold.cfg.ringN := ⟨inv_unread 62 (by decide) false, rfl, rfl, by decide⟩

/-- `EveryStepTreatsTheRingAsAQueue`: a PRODUCE with room for one more byte and one that laps, a CONSUME, a
POLL, and the boot step. -/
theorem witness_queue :
    (∀ p ∈ [62, 63], Inv { cold with prodCursor := p, produced := p, agenda := [.produce 7] } ∧
      ∃ t, step { cold with prodCursor := p, produced := p, agenda := [.produce 7] } = .next t) ∧
    62 - cold.consumed + 1 < cold.cfg.ringN ∧ 63 - cold.consumed + 1 = cold.cfg.ringN ∧
    cold.overrun = false ∧ modeSwitchNext { cold with agenda := [.produce 7] } = none ∧
    (∀ m ∈ [.consume, .poll ⟨true, 0, 0⟩], Inv { cold with prodCursor := 3, produced := 3, agenda := [m] } ∧
      ∃ t, step { cold with prodCursor := 3, produced := 3, agenda := [m] } = .next t) ∧
    Inv State.reset ∧ modeSwitchNext State.reset = some .narrow := by
  refine ⟨fun p hp => ⟨inv_unread p ?_ false _, _, rfl⟩, by decide, by decide, rfl, rfl, fun m hm =>
    ⟨inv_unread 3 (by decide) false _, ?_⟩, witness_inv_reset, rfl⟩
  · simp at hp; omega
  · simp only [List.mem_cons, List.not_mem_nil, or_false] at hm
    rcases hm with rfl | rfl <;> exact ⟨_, rfl⟩

/-- `LappingWriteIsAnUndetectedOverrun`: 63 bytes unread. -/
theorem witness_lap :
    Inv { cold with prodCursor := 63, produced := 63 } ∧ cold.terminal = false ∧
      63 - cold.consumed + 1 = cold.cfg.ringN := ⟨inv_unread 63 (by decide) false, rfl, by decide⟩

/-- `ParseRunsTheRowItsDispatchSelects`: each state of the parser, at both ends of a record and at budgets 2
and 1. -/
theorem witness_parse :
    (∀ s ∈ [cold, reading [0xA5], reading [0xA5, 0, 1, 2, 3, 4, 0x89], gap 2, gap 1], Running s) ∧
      cold.pstate = .scanningForSync ∧ (reading [0xA5]).pstate = .readingLine ∧
      1 ≤ (reading [0xA5]).lineCount ∧
      (reading [0xA5, 0, 1, 2, 3, 4, 0x89]).lineCount + 1 = cold.desc.recordSize ∧
      (gap 2).pstate = .scanningGap ∧ 0xA5 = cold.cfg.sync ∧ 0 ≠ cold.cfg.sync ∧
      2 ≤ (gap 2).gapRemaining ∧ (gap 1).gapRemaining ≤ 1 :=
  ⟨fun s hs => by
    simp only [List.mem_cons, List.not_mem_nil, or_false] at hs
    rcases hs with rfl | rfl | rfl | rfl | rfl <;> exact ⟨by decide, rfl⟩, by decide⟩

/-- `ScanningForSyncStartsARecordOrDiscards`: a sync byte and its neighbour. -/
theorem witness_sfs :
    Running cold ∧ cold.pstate = .scanningForSync ∧ cold.lineBuf.wf = true ∧ 0xA5 = cold.cfg.sync ∧
      0xA4 ≠ cold.cfg.sync := ⟨running_cold, rfl, rfl, rfl, by decide⟩

/-- `ReadingLineStoresTheByteThenChecks`: the row byte (rows 4 and 5, locked and unlocked), a payload
byte, and the last byte. -/
theorem witness_reading :
    Running (reading [0xA5]) ∧ (reading [0xA5]).pstate = .readingLine ∧ (reading [0xA5]).lineBuf.wf = true ∧
      (reading [0xA5]).lineCount + 1 = 2 ∧ (cold.desc.row 4).toNat < cold.desc.totalLines ∧
      cold.desc.totalLines ≤ (cold.desc.row 5).toNat ∧ (reading [0xA5]).frameLocked = false ∧
      cold.desc.totalLines ≤ (cold.desc.row 0xA5).toNat ∧ 5 ≠ cold.cfg.sync ∧
      2 < (reading [0xA5, 0]).lineCount + 1 ∧
      (reading [0xA5, 0, 1, 2, 3, 4]).lineCount + 1 < cold.desc.recordSize ∧
      (reading [0xA5, 0, 1, 2, 3, 4, 5]).lineCount + 1 = cold.desc.recordSize :=
  ⟨⟨by decide, rfl⟩, by decide⟩

/-- `RowCheckHasFourOutcomes`: rows 4 and 5, and the sync byte. -/
theorem witness_row_check :
    (∀ b ∈ [4, 5, 0xA5], Running (reading [0xA5, b]) ∧ (reading [0xA5, b]).pstate = .readingLine ∧
      (reading [0xA5, b]).lineCount = 2 ∧ (reading [0xA5, b]).lineBuf.wf = true) ∧
    Running { reading [0xA5, 5] with frameLocked := true } ∧
    Memory.read (reading [0xA5, 5]).lineBuf 1 = 5 ∧ (5 : Byte).toNat = cold.desc.totalLines :=
  ⟨fun _ _ => ⟨⟨rfl, rfl⟩, rfl, rfl, by simp_all; rcases ‹_ ∨ _› with h | h | h <;> subst h <;> decide⟩,
    ⟨by decide, rfl⟩, by decide, by decide⟩

/-- `ConsumeAppliesTheRowRulesOutOfRange`: the first row out of range, locked (S8) and unlocked, and the
sync byte itself (S7). -/
theorem witness_out_of_range :
    (∀ b ∈ [5, 0xA5], ∀ l ∈ [true, false],
      Running { holding [0xA5, b] with frameLocked := l } ∧ (holding [0xA5, b]).lineBuf.wf = true ∧
      (holding [0xA5, b]).pstate ≠ .readingLine ∧
      min (available (holding [0xA5, b])) (holding [0xA5, b]).cfg.batchMax = 2 ∧
      Memory.read (holding [0xA5, b]).ring 0 = cold.cfg.sync ∧
      Memory.read (holding [0xA5, b]).ring 1 = b ∧ cold.desc.totalLines ≤ (cold.desc.row b).toNat) ∧
    cold.frameLocked = false ∧ cold.desc.totalLines ≤ (cold.desc.row cold.cfg.sync).toNat := by
  refine ⟨fun b hb l _ => ?_, rfl, by decide⟩
  simp only [List.mem_cons, List.not_mem_nil, or_false] at hb
  rcases hb with rfl | rfl <;> exact ⟨⟨rfl, rfl⟩, by decide⟩

/-- `CompletionComparesTheCrc`, and the states after it (`CrcMismatchCountsAndExtendsTheGap`,
`CrcMatchHandlesTheLineAndLocks`): B0 and L0. -/
theorem witness_completion :
    Running (reading [0xA5, 0, 1, 2, 3, 4, 0x89, 0xC2]) ∧
      (reading [0xA5, 0, 1, 2, 3, 4, 0x89, 0xC2]).lineCount = cold.desc.recordSize ∧
      crcCalc (reading [0xA5, 0, 1, 2, 3, 4, 0x89, 0xC2]) ≠ crcField (reading [0xA5, 0, 1, 2, 3, 4, 0x89, 0xC2]) ∧
      crcCalc (reading [0xA5, 0, 1, 2, 3, 4, 0x89, 0xC3]) = crcField (reading [0xA5, 0, 1, 2, 3, 4, 0x89, 0xC3]) ∧
      Running { reading [0xA5, 0, 1, 2, 3, 4, 0x89, 0xC3] with lineCount := 0 } ∧
      (reading [0xA5, 0, 1, 2, 3, 4, 0x89, 0xC3]).pstate = .readingLine ∧
      (reading [0xA5, 0, 1, 2, 3, 4, 0x89, 0xC3]).rowAddr.toNat < cold.desc.totalLines :=
  ⟨⟨by decide, rfl⟩, by decide, by decide, by decide, ⟨by decide, rfl⟩, by decide, by decide⟩

/-- `ScanningGapHasThreeOutcomes`: budgets 2 and 1. -/
theorem witness_gap :
    Running (gap 2) ∧ (gap 2).pstate = .scanningGap ∧ (gap 2).lineBuf.wf = true ∧ 2 ≤ (gap 2).gapRemaining ∧
      Running (gap 1) ∧ (gap 1).gapRemaining ≤ 1 ∧ 0xA5 = (gap 2).cfg.sync ∧ 0 ≠ (gap 2).cfg.sync :=
  ⟨⟨by decide, rfl⟩, rfl, rfl, by decide, ⟨by decide, rfl⟩, by decide, rfl, by decide⟩

/-- `GapBudgetToleratesOneLessThanItself`: budget 3, with 2 and with 3 bytes (S9). -/
theorem witness_gap_budget :
    (gap 3).pstate = .scanningGap ∧ 1 ≤ (gap 3).gapRemaining ∧ (∀ b ∈ [0, 0, 0], b ≠ (gap 3).cfg.sync) ∧
      [0, 0].length < (gap 3).gapRemaining ∧ [0, 0, 0].length = (gap 3).gapRemaining := by decide

/-- `FrameLockIsSetByAMatchAndClearedByExhaustion`: one byte that sets the lock, one that clears it. -/
theorem witness_frame_lock :
    (parse 0xC3 (reading [0xA5, 0, 1, 2, 3, 4, 0x89])).frameLocked ≠
        (reading [0xA5, 0, 1, 2, 3, 4, 0x89]).frameLocked ∧
      (parse 0 (gap 1)).frameLocked ≠ (gap 1).frameLocked := by decide

/-- `EncodedLineRecordIsValidated` and `LineRecordWithAWrongCrcIsNeverPlaced`: the last row below T. -/
theorem witness_record :
    Running (gap 3) ∧ (gap 3).lineBuf.wf = true ∧ (gap 3).pstate ≠ .readingLine ∧
      [1, 2, 3, 4].length = (gap 3).desc.width ∧ ((gap 3).desc.row 4).toNat < (gap 3).desc.totalLines ∧
      0x89C2 ≠ crc16 [1, 2, 3, 4] := ⟨⟨by decide, rfl⟩, by decide⟩

/-- `ByteOutsideTheRecordFaults`: one below and one above the range, with a byte to read. -/
theorem witness_outside :
    Running { reading [] with prodCursor := 1 } ∧ ¬(1 ≤ (reading []).lineCount) ∧
      1 ≤ available { reading [] with prodCursor := 1 } ∧
      ¬((reading [0, 0, 0, 0, 0, 0, 0, 0]).lineCount < cold.desc.recordSize) :=
  ⟨⟨by decide, rfl⟩, by decide, by decide, by decide⟩

/-- `PlaceCopiesThePayloadToItsRow`: the last row, new and placed already. -/
theorem witness_place :
    Running cold ∧ (buffer cold cold.active).wf = true ∧ (2 : Byte).toNat < cold.desc.height ∧
      [1, 2, 3, 4].length = cold.desc.width ∧ cold.placed.getLsbD 2 = false ∧
      assembled.placed.getLsbD 2 = true ∧ (buffer assembled assembled.active).wf = true :=
  ⟨running_cold, by decide⟩

/-- `DropLeavesThePendingFrame`: a repeated row while the slot is occupied. -/
theorem witness_drop :
    Running busy ∧ (1 : Byte).toNat < busy.desc.totalLines ∧ 0 < busy.placedCount ∧ 1 ≤ busy.prevRow ∧
      busy.pending = true := ⟨⟨by decide, rfl⟩, by decide⟩

/-- `HandoffSwapsTheBuffersAndStampsTheHeader` and `HandleLineTakesTheBoundaryFirst`: a repeated row. -/
theorem witness_handoff :
    Running assembled ∧ (2 : Byte).toNat < assembled.desc.totalLines ∧ 0 < assembled.placedCount ∧
      2 ≤ assembled.prevRow ∧ assembled.pending = false ∧ [1, 2, 3, 4].length = assembled.desc.width :=
  ⟨⟨by decide, rfl⟩, by decide⟩

/-- `HandleLineTakesTheBoundaryFirst` without a boundary: the last active row, and the first blanking
row. -/
theorem witness_no_boundary :
    ¬(0 < cold.placedCount ∧ 2 ≤ cold.prevRow) ∧ (2 : Byte).toNat < cold.desc.height ∧
      cold.desc.height ≤ (3 : Byte).toNat ∧ (3 : Byte).toNat < cold.desc.totalLines ∧
      ¬(0 < assembled.placedCount ∧ 3 ≤ assembled.prevRow) := by decide

/-- `FrameIdCountsBoundaries`, with and without a boundary. -/
theorem witness_frame_id :
    (∃ t, exec (.handleLine 0 [1, 2, 3, 4]) assembled = .next t) ∧
      ∃ t, exec (.handleLine 0 [1, 2, 3, 4]) cold = .next t := ⟨⟨_, rfl⟩, ⟨_, rfl⟩⟩

/-- `PendingFrameIsNeverWritten`: a step of CONSUME while a frame is pending. -/
theorem witness_pending :
    ∃ t, step { sending 5 with agenda := [.consume] } = .next t ∧ (sending 5).pending = true ∧
      t.pending = true := ⟨_, rfl, rfl, rfl⟩

/-- `OrderedLinesMakeOneFrame`: the frame of P1. -/
theorem witness_frame :
    Inv cold ∧ cold.terminal = false ∧ cold.pstate ≠ .readingLine ∧ cold.placedCount = 0 ∧
      cold.pending = false ∧ cold.desc.rowDecode = .direct ∧
      [[1, 2, 3, 4], [0x10, 0x11, 0x12, 0x13], [0x20, 0x21, 0x22, 0x23]].length = cold.desc.height ∧
      (∀ p ∈ [[1, 2, 3, 4], [0x10, 0x11, 0x12, 0x13], [0x20, 0x21, 0x22, 0x23]],
        p.length = cold.desc.width) ∧ [0x30, 0x31, 0x32, 0x33].length = cold.desc.width :=
  ⟨witness_inv_cold, by decide⟩

/-- `BufferRolesFollowTheSlot`: a handoff, an abandonment, a completion. -/
theorem witness_roles :
    (∃ t, exec (.boundaryHandoff 0) assembled = .next t) ∧ (∃ t, exec .pollDisconnect (sending 5) = .next t) ∧
      ∃ t, exec .pollComplete (sending 20) = .next t := ⟨⟨_, rfl⟩, ⟨_, rfl⟩, ⟨_, rfl⟩⟩

/-- `PollIdleAndDisconnect`, `PollWriteAdvancesByWhatIsAccepted` (each of its cases) and
`PollCompleteFreesTheSlotAndFlushes`. -/
theorem witness_poll :
    (∀ n, Running (sending n) ∧ (sending n).pending = true) ∧ cold.pending = false ∧
      (0 < offerSize 5 (sending 14) ∧ 5 ≤ offerSize 5 (sending 14) ∧
        (sending 14).sendCursor + 5 < packetSize cold) ∧
      (0 < offerSize 5 (sending 15) ∧ (sending 15).sendCursor + 5 = packetSize cold) ∧
      (offerSize 0 (sending 19) = 0 ∧ (sending 19).sendCursor ≠ packetSize cold) ∧
      (sending 20).sendCursor = packetSize cold ∧
      (0 < offerSize 5 (sending 15) ∧ offerSize 5 (sending 15) < 6) :=
  ⟨fun _ => ⟨⟨rfl, rfl⟩, rfl⟩, by decide⟩

/-- `TwoPollsSendTheWholePacket`: K = 7 of 20 (S10). -/
theorem witness_two_polls :
    Running (sending 0) ∧ (sending 0).pending = true ∧ (sending 0).sendCursor = 0 ∧ 0 < 7 ∧
      7 < packetSize (sending 0) ∧ 7 ≤ 64 ∧ packetSize (sending 0) - 7 ≤ 64 := ⟨⟨by decide, rfl⟩, by decide⟩

/-- The statements of the mode controller: a block that runs. `IgnoredCommandChangesNothing`: 'x', and
0xCE, one bit away from 'N'. -/
theorem witness_ignore :
    Running cold ∧ ∀ c ∈ [0x78, 0xCE], (c : Byte) &&& 0xDF ≠ 0x4E ∧ c &&& 0xDF ≠ 0x4F ∧
      c &&& 0xDF ≠ 0x53 ∧ c &&& 0xDF ≠ 0x52 ∧ c &&& 0xDF ≠ 0x42 := ⟨running_cold, by decide⟩

/-- `CmdTakesTheOldestByteAndRunsIt` and `StepRunsTheDecodedCommand`. -/
theorem witness_cmd :
    Running { cold with cmdQueue := [0x62] } ∧ cold.cmdQueue = [] ∧
      nextMove { cold with cmdQueue := [0x62], agenda := [.cmd] } = .cmd ∧ cold.booting = false ∧
      decode [0x62] = .ok (.fwUpdate .lower, []) := ⟨⟨by decide, rfl⟩, rfl, rfl, rfl, rfl⟩

/-- `UnselectedOperationsHaveNoMove`: an operation that is selected and its neighbour that is not, at the
boundary between them. -/
theorem witness_unselected :
    Running (gap 1) ∧ ¬ Selected (gap 1) (.parseSgFill 0) ∧ Selected (gap 1) (.parseSgExhaust 0) ∧
      Running (sending 19) ∧ ¬ Selected (sending 19) .pollComplete ∧ Selected (sending 20) .pollComplete := by
  refine ⟨⟨by decide, rfl⟩, fun h => absurd h.2.2 (by decide), ⟨rfl, by decide, by decide⟩, ⟨by decide, rfl⟩,
    fun h => absurd h.2 (by decide), ⟨rfl, by decide⟩⟩
/-- R14, log 6: the neighbours of a budget, a row, a lock, a total, a boundary, and a command byte. -/
theorem test_unselected :
    refusal (exec (.parseSgFill 0) (gap 1)) = some .notEnabled ∧
      refusal (exec (.parseSgExhaust 0) (gap 2)) = some .notEnabled ∧
      refusal (exec .parseRlRowInRange (reading [0xA5, 5])) = some .notEnabled ∧
      refusal (exec .parseRlRowLocked (reading [0xA5, 5])) = some .notEnabled ∧
      refusal (exec .pollComplete (sending 19)) = some .notEnabled ∧
      refusal (exec (.boundaryHandoff 3) assembled) = some .notEnabled ∧
      refusal (exec (.handleLine 5 [1, 2, 3, 4]) cold) = some .notEnabled ∧
      refusal (exec (.ignore 0x6E) cold) = some .notEnabled := by decide

/-- `StepRunsTheMoveAtHand`: each kind of move. -/
theorem witness_moves :
    cold.booting = false ∧ nextMove { cold with agenda := [.produce 7] } = .produce 7 ∧
      nextMove { cold with agenda := [.consume] } = .consume ∧
      nextMove { sending 0 with agenda := [.poll ⟨true, 5, 5⟩] } = .poll ⟨true, 5, 5⟩ ∧
      nextMove { cold with agenda := [.hostByte 0x53] } = .hostByte 0x53 := by decide

/-- `ColdStartBootsIntoTheInitialVariant` and `ColdStartIsSound`: content left in the ring and in the
line buffer. -/
theorem witness_cold_start :
    Config.testConfiguration.wf = true ∧ Memory.wf [(0, 0xA5), (63, 1)] = true ∧
      Memory.within Config.testConfiguration.ringN [(0, 0xA5), (63, 1)] = true ∧
      Memory.wf [(7, 3)] = true ∧ Memory.within Config.testConfiguration.maxRecord [(7, 3)] = true := by
  decide

/-- `EveryStepKeepsTheInvariant`, `OnlyAModeSwitchResetsVariantAndCursor` and `HistoryOnlyGrows`: the
boot step. -/
theorem witness_step : Inv State.reset ∧ ∃ t, step State.reset = .next t := ⟨witness_inv_reset, _, rfl⟩

/-- `OnlyAModeSwitchResetsVariantAndCursor`: both of its cases. -/
theorem witness_mode_switch_next :
    modeSwitchNext State.reset = some .narrow ∧
      modeSwitchNext { cold with agenda := [.cmd], cmdQueue := [0x6F] } = some .wide ∧
      modeSwitchNext { cold with agenda := [.consume] } = none := by decide

/-- `IllFormedConfigurationHasNoRun` and `NoAgentStepsAfterTheHandoff`. -/
theorem witness_stopped :
    (under { Config.testConfiguration with batchMax := 0 }).cfg.wf = false ∧ handedOff.cfg.wf = true ∧
      handedOff.terminal = true := by decide

/-- The waiting 'x' is taken at the first step, and the run goes on with CONSUME and POLL in turn. -/
def fairStates : Nat → State
  | 0 => { cold with cmdQueue := [0x78] }
  | _ + 1 => { cold with history := [.commandIgnored] }

/-- The moves of that run. -/
def fairMoves : Nat → Move
  | 0 => .cmd
  | n + 1 => if n % 2 = 0 then .consume else .poll ⟨true, 0, 0⟩

/-- `FairRunTakesTheOldestCommand`: a fair run that starts with a byte waiting. -/
theorem witness_fair_run :
    IsRun fairStates fairMoves ∧ WeaklyFair fairStates fairMoves ∧ (fairStates 0).cmdQueue = [0x78] := by
  refine ⟨fun n => ?_, ⟨fun n => ⟨2 * n + 1, by omega, ?_⟩, fun n => ⟨2 * n + 2, by omega, ⟨true, 0, 0⟩, ?_⟩, ?_⟩,
    rfl⟩
  · cases n with
    | zero => rfl
    | succ n =>
      show runMove (if n % 2 = 0 then .consume else .poll ⟨true, 0, 0⟩) (fairStates 1) = .next (fairStates 1)
      split <;> rfl
  · show (if 2 * n % 2 = 0 then Move.consume else _) = _
    rw [if_pos (by omega)]
  · show (if (2 * n + 1) % 2 = 0 then Move.consume else _) = _
    rw [if_neg (by omega)]
  · intro h
    obtain ⟨m, hm, hq⟩ := h 1
    cases m with
    | zero => omega
    | succ m => exact absurd rfl hq

/-- `CanonicalMemoriesWithEqualReadsAreEqual`. -/
theorem witness_canonical : Memory.wf [(0, 1), (9, 2)] = true := by decide

end Sys2Proof.Tests
end

section
/-! PROOFS. The scope family (00_scope.md): which configurations have a run (R9), when an operation has
a next state, no move or a fault (R14), which operation a step runs (R7), and what only a mode switch
resets (R232). First the facts about the guards and the moves, then the statements. -/

namespace Sys2Proof.Machine

/-! ### The guard of every operation (R9, R294) -/

/-- Under an ill-formed configuration a guarded operation is refused (R9). -/
theorem whenRunning_of_illFormed {s : State} (h : s.cfg.wf = false)
    (o : Host.Outcome State Fault Refusal) : whenRunning s o = .refused .illFormedConfig := if_pos h

/-- Every operation asks first whether the block runs. -/
theorem exec_guarded (i : Instr) (s : State) : ∃ o, exec i s = whenRunning s o := by
  cases i <;> exact ⟨_, rfl⟩

/-- So does the step of every agent, HOST's append included. -/
theorem runMove_guarded (m : Move) (s : State) : ∃ o, runMove m s = whenRunning s o := by
  cases m with
  | hostByte c => exact ⟨_, rfl⟩
  | produce b => exact exec_guarded (.produce b) s
  | consume => exact exec_guarded .consume s
  | poll a => exact exec_guarded (pollInstr a s) s
  | cmd => exact exec_guarded .cmd s

theorem exec_of_illFormed {s : State} (h : s.cfg.wf = false) (i : Instr) :
    exec i s = .refused .illFormedConfig := by
  obtain ⟨o, ho⟩ := exec_guarded i s
  rw [ho, whenRunning_of_illFormed h]

theorem runMove_of_illFormed {s : State} (h : s.cfg.wf = false) (m : Move) :
    runMove m s = .refused .illFormedConfig := by
  obtain ⟨o, ho⟩ := runMove_guarded m s
  rw [ho, whenRunning_of_illFormed h]

/-- Once the cold start is over, a step is the next agent's move (R221). -/
theorem step_of_booted {s : State} (h : s.booting = false) :
    step s = runMove (nextMove s) (takeMove s) := by simp [step_eq, h]

/-- While the cold start lasts, a step is the boot step (R280). -/
theorem step_of_booting {s : State} (h : s.booting = true) :
    step s = exec (.modeSwitch s.cfg.initialVariant) { s with booting := false } := by
  simp [step_eq, h]

theorem step_of_illFormed {s : State} (h : s.cfg.wf = false) : step s = .refused .illFormedConfig := by
  cases hb : s.booting with
  | true => rw [step_of_booting hb]; exact exec_of_illFormed (s := { s with booting := false }) h _
  | false => rw [step_of_booted hb]; exact runMove_of_illFormed (by simpa using h) _

/-- Taking a move neither stops the block nor starts it. -/
theorem running_takeMove {s : State} : Running (takeMove s) ↔ Running s := by simp [Running]

/-! ### Well-formed configurations (R9) -/

/-- A ring of a power of two has two places or more exactly where its exponent is not 0 (WF1). -/
theorem Config.two_le_ringN_iff (c : Config) : 2 ≤ c.ringN ↔ 1 ≤ c.ringBits :=
  (Nat.pow_le_pow_iff_right (a := 2) (n := 1) (by decide))

/-- WF4 and WF5 for one variant. -/
theorem Descriptor.wf_iff (d : Descriptor) : d.wf = true ↔
    1 ≤ d.width ∧ 1 ≤ d.height ∧ d.height ≤ d.totalLines ∧ d.totalLines ≤ 256 ∧
      d.width ≤ 65535 ∧ d.height ≤ 65535 ∧ d.recordSize = d.width + 4 := by
  simp [Descriptor.wf, Descriptor.recordSize, and_assoc]

/-- WF4 for both variants, as for each variant. -/
theorem Config.descriptors_wf_iff (c : Config) :
    (∀ v, (c.descriptor v).wf = true) ↔ c.narrow.wf = true ∧ c.wide.wf = true :=
  ⟨fun h => ⟨h .narrow, h .wide⟩, fun h v => by cases v; exacts [h.1, h.2]⟩

/-- The conditions of R9, one by one. -/
theorem Config.wf_iff (c : Config) : c.wf = true ↔
    2 ≤ c.ringN ∧ 1 ≤ c.batchMax ∧ 1 ≤ c.maxGap ∧ (∀ v, (c.descriptor v).wf = true) ∧
      c.narrow.totalLines ≤ (c.narrow.row c.sync).toNat := by
  rw [Config.two_le_ringN_iff, Config.descriptors_wf_iff]
  simp [Config.wf, and_assoc]

/-! ### Faults (R14, R254) -/

/-- In a sound state the record has room for the byte that PARSE stores (I4 of R59). -/
theorem ParserInv.recordOpen {s : State} (h : ParserInv s) : recordOpen s = true :=
  decide_eq_true h.open_iff.mp

theorem recordOpen_takeMove (s : State) : recordOpen (takeMove s) = recordOpen s := by
  simp [recordOpen]

theorem execCommand_ne_fault (c : Command) (s : State) (f : Fault) : execCommand c s ≠ .fault f := by
  cases c <;> exact attempt_ne_fault

/-- The one fault stands at the store of R143: where the record has room for it, no operation faults. -/
theorem exec_ne_fault {s : State} (h : recordOpen s = true) (i : Instr) (f : Fault) :
    exec i s ≠ .fault f := by
  cases i with
  | consume =>
    intro e
    obtain ⟨_, e⟩ := whenRunning_eq_fault.mp e
    simp [h] at e
  | parseRlAccumulate b =>
    intro e
    obtain ⟨_, e⟩ := whenRunning_eq_fault.mp e
    rw [if_pos h] at e
    split at e <;> cases e
  | pollWrite room accepted =>
    intro e
    obtain ⟨_, e⟩ := whenRunning_eq_fault.mp e
    split_ifs at e
  | cmd =>
    intro e
    obtain ⟨_, e⟩ := whenRunning_eq_fault.mp e
    split at e
    · cases e
    · exact execCommand_ne_fault _ _ _ e
  | _ => exact attempt_ne_fault

theorem runMove_ne_fault {s : State} (h : recordOpen s = true) (m : Move) (f : Fault) :
    runMove m s ≠ .fault f := by
  cases m with
  | hostByte c => exact attempt_ne_fault
  | produce b => exact exec_ne_fault h (.produce b) f
  | consume => exact exec_ne_fault h .consume f
  | poll a => exact exec_ne_fault h (pollInstr a s) f
  | cmd => exact exec_ne_fault h .cmd f

/-! ### Operations that are not selected (R14, R110) -/

/-- An operation with one effect has no move in exactly the states outside what its guard tests. -/
theorem attempt_notEnabled_iff {s s' : State} {e : Bool} {p : Prop} (h : Running s) (hp : e = true ↔ p) :
    attempt s e s' = .refused .notEnabled ↔ ¬ p :=
  (attempt_eq_notEnabled h).trans (not_congr hp)

theorem rowDue_iff (s : State) : rowDue s = true ↔ RowByteStored s := decide_eq_true_iff

theorem rowInRange_iff (s : State) : rowInRange s = true ↔ RowBelowT s := decide_eq_true_iff

theorem rowInRange_eq_false_iff (s : State) : rowInRange s = false ↔ ¬ RowBelowT s :=
  Bool.eq_false_iff.trans (not_congr (rowInRange_iff s))

/-- The row byte, as `Selected` reads it. -/
theorem read_lineBuf_one (s : State) : Memory.read s.lineBuf 1 = rowByte s := rfl

/-- The total of R101, as `Selected` writes it. -/
theorem frame_total (s : State) : 8 + s.desc.width * s.desc.height = packetSize s := rfl

theorem crcDue_iff (s : State) : crcDue s = true ↔ s.pstate = .readingLine ∧ s.lineCount = 0 :=
  decide_eq_true_iff

theorem isBoundary_iff (s : State) (row : Byte) :
    isBoundary s row = true ↔ 0 < s.placedCount ∧ row ≤ s.prevRow := by simp [isBoundary]

/-- A byte is IGNORE's exactly where its folded case is none of the five command codes (R104). -/
theorem isCommandByte_eq_false_iff (c : Byte) : isCommandByte c = false ↔
    ∀ code ∈ ([0x4E, 0x4F, 0x53, 0x52, 0x42] : List Byte), c &&& 0xDF ≠ code := by
  simp [isCommandByte, foldCase, and_assoc]

/-- The six commands (R223 to R230). -/
theorem exec_command_notEnabled_iff {s : State} (h : Running s) (c : Command) :
    exec c.instr s = .refused .notEnabled ↔ ¬ Selected s c.instr := by
  cases c with
  | ignore b =>
    exact attempt_notEnabled_iff h (by
      rw [Instr.wf, Bool.not_eq_true']
      exact isCommandByte_eq_false_iff b)
  | _ => exact attempt_notEnabled_iff h (by simp [Command.instr, Selected])

/-- What a byte decodes to is selected: IGNORE is left for the bytes that no command takes (R103, R104). -/
theorem selected_decodeCommand (s : State) (c : Byte) : Selected s (decodeCommand c).instr := by
  unfold decodeCommand
  split_ifs with h1 h2 h3 h4 h5
  case neg =>
    refine (isCommandByte_eq_false_iff c).mp ?_
    simp only [isCommandByte, Bool.or_eq_false_iff, beq_eq_false_iff_ne]
    exact ⟨⟨⟨⟨h1, h2⟩, h3⟩, h4⟩, h5⟩
  all_goals trivial

/-- CMD waits only for a byte (R221, R222). -/
theorem exec_cmd_notEnabled_iff {s : State} (h : Running s) :
    exec .cmd s = .refused .notEnabled ↔ s.cmdQueue = [] := by
  change whenRunning s _ = _ ↔ _
  rw [whenRunning_of_running h]
  cases hq : s.cmdQueue with
  | nil => simp
  | cons c rest =>
    have hr : Running (setQueue rest s) := h
    have hs := selected_decodeCommand (setQueue rest s) c
    simpa [execCommand_eq] using mt (exec_command_notEnabled_iff hr _).mp (not_not.mpr hs)

/-- CONSUME is always selected: with nothing available it moves nothing (R123). -/
theorem exec_consume_ne_notEnabled (s : State) : exec .consume s ≠ .refused .notEnabled := by
  change whenRunning s _ ≠ _
  unfold whenRunning
  split_ifs <;> simp

theorem exec_parseRlAccumulate_notEnabled_iff {s : State} (h : Running s) (b : Byte) :
    exec (.parseRlAccumulate b) s = .refused .notEnabled ↔ s.pstate ≠ .readingLine := by
  change whenRunning s _ = _ ↔ _
  rw [whenRunning_of_running h]
  split_ifs with hp <;> simp [hp]

theorem exec_pollWrite_notEnabled_iff {s : State} (h : Running s) (room accepted : Nat) :
    exec (.pollWrite room accepted) s = .refused .notEnabled ↔ ¬ s.pending = true := by
  change whenRunning s _ = _ ↔ _
  rw [whenRunning_of_running h]
  split_ifs with hp <;> simp [hp]

/-- An operation has no move in exactly the states in which it is not selected. -/
theorem exec_notEnabled_iff {s : State} (h : Running s) (i : Instr) :
    exec i s = .refused .notEnabled ↔ ¬ Selected s i := by
  cases i with
  | modeNarrow k => exact exec_command_notEnabled_iff h (.modeNarrow k)
  | modeWide k => exact exec_command_notEnabled_iff h (.modeWide k)
  | status k => exact exec_command_notEnabled_iff h (.status k)
  | clearStats k => exact exec_command_notEnabled_iff h (.clearStats k)
  | fwUpdate k => exact exec_command_notEnabled_iff h (.fwUpdate k)
  | ignore c => exact exec_command_notEnabled_iff h (.ignore c)
  | consume => simpa [Selected] using exec_consume_ne_notEnabled s
  | parseRlAccumulate b => exact exec_parseRlAccumulate_notEnabled_iff h b
  | pollWrite room accepted => exact exec_pollWrite_notEnabled_iff h room accepted
  | cmd => exact (exec_cmd_notEnabled_iff h).trans not_not.symm
  | parseRlRowInRange | parseRlRowLocked =>
    exact attempt_notEnabled_iff h (by
      simp [Selected, rowDue_iff, rowInRange_iff, rowInRange_eq_false_iff, and_assoc])
  | parseRlRowFalseSync | parseRlRowFallback =>
    exact attempt_notEnabled_iff h (by
      simp [Selected, rowDue_iff, rowInRange_eq_false_iff, read_lineBuf_one, and_assoc])
  | parseRlCrcMismatch | parseRlCrcMatch =>
    exact attempt_notEnabled_iff h (by simp [Selected, crcDue_iff, and_assoc])
  | handleLine row bytes | boundaryDrop row | boundaryHandoff row | place row bytes =>
    exact attempt_notEnabled_iff h (by simp [Selected, Instr.wf, isBoundary_iff, and_assoc])
  | pollComplete =>
    exact attempt_notEnabled_iff h (by simp [Selected, frame_total])
  | _ => exact attempt_notEnabled_iff h (by simp [Selected, and_assoc])

/-! ### Which row a POLL is (R202 to R204) -/

theorem pollInstr_of_idle {s : State} (a : ChannelAnswer) (h : s.pending = false) :
    pollInstr a s = .pollIdle := by simp [pollInstr, h]

theorem pollInstr_of_disconnected {s : State} {a : ChannelAnswer} (h : s.pending = true)
    (ha : a.connected = false) : pollInstr a s = .pollDisconnect := by simp [pollInstr, h, ha]

theorem pollInstr_of_connected {s : State} {a : ChannelAnswer} (h : s.pending = true)
    (ha : a.connected = true) : pollInstr a s = .pollWrite a.room a.accepted := by
  simp [pollInstr, h, ha]

/-! ### What a step does to the variant, the cursors and the overrun ghost -/

/-- The variant a command switches to, if it is a mode command (R223, R224). -/
def commandVariant : Command → Option Variant
  | .modeNarrow _ => some .narrow
  | .modeWide _ => some .wide
  | .status _ | .clearStats _ | .fwUpdate _ | .ignore _ => none

theorem modeSwitchNext_of_booting {s : State} (h : s.booting = true) :
    modeSwitchNext s = some s.cfg.initialVariant := by simp [modeSwitchNext, h]

theorem modeSwitchNext_of_ne_cmd {s : State} (h : s.booting = false) (m : nextMove s ≠ .cmd) :
    modeSwitchNext s = none := by
  unfold modeSwitchNext
  rw [h]
  cases hm : nextMove s with
  | cmd => exact absurd hm m
  | _ => rfl

theorem modeSwitchNext_of_cmd {s : State} {c : Byte} {rest : List Byte} (h : s.booting = false)
    (m : nextMove s = .cmd) (q : s.cmdQueue = c :: rest) :
    modeSwitchNext s = commandVariant (decodeCommand c) := by
  unfold modeSwitchNext
  rw [h, m, q]
  cases hc : decodeCommand c <;> simp [hc, commandVariant]

/-- What a mode switch resets, of the variant, the cursors and the overrun ghost (R225). -/
structure SwitchedTo (v : Variant) (t : State) : Prop where
  variant : t.variant = v
  prod : t.prodCursor = 0
  cons : t.consCursor = 0
  overrun : t.overrun = false

/-- The same four are left as they are. -/
structure SameCursors (s t : State) : Prop where
  variant : t.variant = s.variant
  prod : t.prodCursor = s.prodCursor
  cons : t.consCursor = s.consCursor
  overrun : t.overrun = s.overrun

/-- What a step that is no mode switch may do to the four: only PRODUCE moves P, only CONSUME moves C, and
the ghost is not cleared (R36, R121, R123). -/
structure CursorsMovedByRing (s t : State) : Prop where
  variant : t.variant = s.variant
  overrun : s.overrun = true → t.overrun = true
  prod : t.prodCursor = s.prodCursor ∨
    ∃ b, nextMove s = .produce b ∧ t.prodCursor = (s.prodCursor + 1) % s.cfg.ringN
  cons : t.consCursor = s.consCursor ∨ nextMove s = .consume ∧
    t.consCursor = (s.consCursor + min (available s) s.cfg.batchMax) % s.cfg.ringN

theorem SameCursors.cursorsMovedByRing {s t : State} (h : SameCursors s t) : CursorsMovedByRing s t :=
  ⟨h.variant, h.overrun.trans, .inl h.prod, .inl h.cons⟩

theorem modeSwitch_switchedTo (v : Variant) (s : State) : SwitchedTo v (modeSwitch v s) := by
  constructor <;> simp

/-- What is available is not changed by taking a move (R122). -/
@[simp] theorem available_takeMove (s : State) : available (takeMove s) = available s := by
  simp [available, ringIndex]

theorem producer_cursorsMovedByRing {s : State} {b : Byte} (m : nextMove s = .produce b) :
    CursorsMovedByRing s (producer b (takeMove s)) where
  variant := by simp
  overrun h := by simp [h]
  prod := .inr ⟨b, m, by simp⟩
  cons := .inl (by simp)

theorem consumer_cursorsMovedByRing {s : State} (m : nextMove s = .consume) :
    CursorsMovedByRing s (consumer (takeMove s)) where
  variant := by simp
  overrun h := by simp [h]
  prod := .inl (by simp)
  cons := .inr ⟨m, by simp [ringIndex, batchSize]⟩

/-- A command is a mode switch, or leaves the four (R222 to R230). -/
theorem exec_command_switch_or_same {c : Command} {s t : State} (h : exec c.instr s = .next t) :
    (∃ v, commandVariant c = some v ∧ SwitchedTo v t) ∨ (commandVariant c = none ∧ SameCursors s t) := by
  obtain ⟨k, rfl, rfl⟩ | ⟨k, rfl, rfl⟩ | ⟨k, rfl, rfl⟩ | ⟨k, rfl, rfl⟩ | ⟨k, rfl, rfl⟩ | ⟨b, rfl, rfl⟩ :=
    exec_command_cases h
  · exact .inl ⟨_, rfl, modeSwitch_switchedTo _ _⟩
  · exact .inl ⟨_, rfl, modeSwitch_switchedTo _ _⟩
  all_goals exact .inr ⟨rfl, by constructor <;> simp⟩

/-- No command changes the configuration (R8). -/
theorem exec_command_cfg {c : Command} {s t : State} (h : exec c.instr s = .next t) :
    t.cfg = s.cfg := by
  obtain ⟨k, rfl, rfl⟩ | ⟨k, rfl, rfl⟩ | ⟨k, rfl, rfl⟩ | ⟨k, rfl, rfl⟩ | ⟨k, rfl, rfl⟩ | ⟨b, rfl, rfl⟩ :=
    exec_command_cases h <;> simp

/-- No step changes the configuration (R8). -/
theorem step_cfg {s t : State} (h : step s = .next t) : t.cfg = s.cfg := by
  cases step_cases h with
  | cmd c rest h m q e => simpa using exec_command_cfg e
  | boot h e | produce b h m capture e | consume h m e | idle a h m p e | disconnect a h m p e
  | write a h m p k e | host c h m e => subst e; simp

/-- A step is the mode switch that `modeSwitchNext` names, or moves the four as the ring does. -/
theorem step_switch_or_moved {s t : State} (h : step s = .next t) :
    (∃ v, modeSwitchNext s = some v ∧ SwitchedTo v t) ∨
      (modeSwitchNext s = none ∧ CursorsMovedByRing s t) := by
  cases step_cases h with
  | boot hb e =>
    exact .inl ⟨_, modeSwitchNext_of_booting hb, e ▸ modeSwitch_switchedTo _ _⟩
  | produce b hb m capture e =>
    exact .inr ⟨modeSwitchNext_of_ne_cmd hb (by simp [m]), e ▸ producer_cursorsMovedByRing m⟩
  | consume hb m e =>
    exact .inr ⟨modeSwitchNext_of_ne_cmd hb (by simp [m]), e ▸ consumer_cursorsMovedByRing m⟩
  | cmd c rest hb m q e =>
    rw [modeSwitchNext_of_cmd hb m q]
    refine (exec_command_switch_or_same e).imp_right fun ⟨hn, hs⟩ => ⟨hn, SameCursors.cursorsMovedByRing ?_⟩
    obtain ⟨hv, hp, hc, ho⟩ := hs
    constructor <;> simp [*]
  | idle a hb m p e | disconnect a hb m p e | write a hb m p k e | host c hb m e =>
    refine .inr ⟨modeSwitchNext_of_ne_cmd hb (by simp [m]), SameCursors.cursorsMovedByRing ?_⟩
    subst e
    constructor <;> simp

/-! ### The statements -/

/-- Settles O50: the one fault needs a record with no room, which I4 of R59 excludes. -/
theorem noSoundStateFaults : Obligations.NoSoundStateFaults := by
  intro s f h
  have ho : recordOpen s = true := h.parser.recordOpen
  cases hb : s.booting with
  | true => rw [step_of_booting hb]; exact attempt_ne_fault
  | false => rw [step_of_booted hb]; exact runMove_ne_fault ((recordOpen_takeMove s).trans ho) _ f

/-- Settles O53, by the cases of a step: it is a mode switch, or one of the ring's two moves, or it
leaves all four. -/
theorem onlyAModeSwitchResetsVariantAndCursor :
    Obligations.OnlyAModeSwitchResetsVariantAndCursor := by
  intro s t h
  refine ⟨step_cfg h, ?_⟩
  obtain ⟨v, hv, hvar, hp, hc, ho⟩ | ⟨hn, hvar, ho, hp, hc⟩ := step_switch_or_moved h
  · refine ⟨fun hn => by simp [hv] at hn, fun w hw => ?_⟩
    obtain rfl : v = w := Option.some.inj (hv.symm.trans hw)
    exact ⟨hvar, hp, hc, ho⟩
  · exact ⟨fun _ => ⟨hvar, ho, hp, hc⟩, fun w hw => by simp [hn] at hw⟩

/-- Settles O43, by the cases of the operation. -/
theorem unselectedOperationsHaveNoMove : Obligations.UnselectedOperationsHaveNoMove :=
  fun _ i h => exec_notEnabled_iff h i

/-- Settles O45, by the cases of the move at hand. -/
theorem stepRunsTheMoveAtHand : Obligations.StepRunsTheMoveAtHand := by
  intro s hb
  rw [step_of_booted hb]
  refine ⟨fun b m => by rw [m]; rfl, fun m => by rw [m]; rfl, fun a m => ?_, fun c m hr => ?_⟩
  · have hp : (takeMove s).pending = s.pending := takeMove_pending s
    have hpoll : runMove (nextMove s) (takeMove s) = exec (pollInstr a (takeMove s)) (takeMove s) := by
      rw [m]; rfl
    refine ⟨fun h => ?_, fun h ha => ?_, fun h ha => ?_⟩
    · rw [hpoll, pollInstr_of_idle a (hp.trans h)]
    · rw [hpoll, pollInstr_of_disconnected (hp.trans h) ha]
    · rw [hpoll, pollInstr_of_connected (hp.trans h) ha]
  · rw [m]
    exact (hostByte_eq_next c).mpr ⟨running_takeMove.mpr hr, by simp [setQueue]⟩

/-- Settles O51: R9 condition by condition, and the guard that every operation asks first. -/
theorem illFormedConfigurationHasNoRun : Obligations.IllFormedConfigurationHasNoRun := by
  intro s
  refine ⟨?_, ⟨s.cfg.ringBits, rfl⟩, fun h => ⟨exec_of_illFormed h, step_of_illFormed h⟩⟩
  rw [Config.wf_iff]
  simp only [Descriptor.wf_iff]

end Sys2Proof.Machine
end

section
/-! PROOFS. The state family (10_state.md): the sound states of R59 at cold start and along every step,
what a CONSUME leaves (R61), the roles of the buffers (R45), the history (R56), HOST's queue (R55) and the
handed-off block (R53). First what PARSE can do, said once, and what each part of the invariant reads of
the state; then the rules that keep each part; then the statements. -/

namespace Sys2Proof.Machine

/-! ### What PARSE can do (R141) -/

/-- Everything a PARSE of `b` in `s` can have been, with what selected it: one case for each of the rows
R142 to R154, those of the row check and of the completion after the store of R143. -/
inductive ParseCase (b : Byte) (s t : State) : Prop where
  | discard (h : s.pstate = .scanningForSync) (sync : b ≠ s.cfg.sync) (e : t = s)
  | opened (h : s.pstate ≠ .readingLine) (sync : b = s.cfg.sync) (e : t = openRecord b s)
  | stored (h : s.pstate = .readingLine) (row : s.lineCount ≠ 1)
      (last : s.lineCount + 1 ≠ s.desc.recordSize) (e : t = accumulate b s)
  | rowAccepted (h : s.pstate = .readingLine) (row : s.lineCount = 1)
      (range : rowInRange (accumulate b s) = true) (e : t = rowAccepted (accumulate b s))
  | rowLocked (h : s.pstate = .readingLine) (row : s.lineCount = 1)
      (range : rowInRange (accumulate b s) = false) (lock : s.frameLocked = true)
      (e : t = rowLocked (accumulate b s))
  | rowFalseSync (h : s.pstate = .readingLine) (row : s.lineCount = 1)
      (range : rowInRange (accumulate b s) = false) (lock : s.frameLocked = false)
      (sync : rowByte (accumulate b s) = s.cfg.sync) (e : t = rowFalseSync (accumulate b s))
  | rowFallback (h : s.pstate = .readingLine) (row : s.lineCount = 1)
      (range : rowInRange (accumulate b s) = false) (lock : s.frameLocked = false)
      (sync : rowByte (accumulate b s) ≠ s.cfg.sync) (e : t = rowFallback (accumulate b s))
  | crcMatch (h : s.pstate = .readingLine) (row : s.lineCount ≠ 1)
      (last : s.lineCount + 1 = s.desc.recordSize)
      (crc : crcCalc (accumulate b s) = crcField (accumulate b s))
      (e : t = crcMatch (closeRecord (accumulate b s)))
  | crcMismatch (h : s.pstate = .readingLine) (row : s.lineCount ≠ 1)
      (last : s.lineCount + 1 = s.desc.recordSize)
      (crc : crcCalc (accumulate b s) ≠ crcField (accumulate b s))
      (e : t = crcMismatch (closeRecord (accumulate b s)))
  | gapFill (h : s.pstate = .scanningGap) (sync : b ≠ s.cfg.sync) (budget : 2 ≤ s.gapRemaining)
      (e : t = gapFill s)
  | gapExhaust (h : s.pstate = .scanningGap) (sync : b ≠ s.cfg.sync) (budget : s.gapRemaining ≤ 1)
      (e : t = gapExhaust s)

theorem parseRl_cases (b : Byte) {s : State} (h : s.pstate = .readingLine) :
    ParseCase b s (parseRl b s) := by
  unfold parseRl
  dsimp only
  split_ifs with row last
  · have row : s.lineCount = 1 := by simpa using row
    unfold rowCheck
    split_ifs with range lock sync
    · exact .rowAccepted h row range rfl
    · exact .rowLocked h row (Bool.eq_false_iff.mpr range) lock rfl
    · exact .rowFalseSync h row (Bool.eq_false_iff.mpr range) (Bool.eq_false_iff.mpr lock) sync rfl
    · exact .rowFallback h row (Bool.eq_false_iff.mpr range) (Bool.eq_false_iff.mpr lock) sync rfl
  · have row : s.lineCount ≠ 1 := by simpa using row
    unfold complete
    split_ifs with crc
    · exact .crcMatch h row last crc rfl
    · exact .crcMismatch h row last crc rfl
  · exact .stored h (by simpa using row) last rfl

theorem parse_cases (b : Byte) (s : State) : ParseCase b s (parse b s) := by
  unfold parse
  cases hp : s.pstate with
  | scanningForSync =>
    dsimp only [parseSfs]
    split_ifs with sync
    · exact .opened (by simp [hp]) sync rfl
    · exact .discard hp sync rfl
  | readingLine => exact parseRl_cases b hp
  | scanningGap =>
    dsimp only [parseSg]
    split_ifs with sync budget
    · exact .opened (by simp [hp]) sync rfl
    · exact .gapFill hp sync budget rfl
    · exact .gapExhaust hp sync (by omega) rfl

/-! ### What each part of the invariant reads of the state -/

/-- What `MemoryInv` reads. -/
def memoryView (s : State) : Config × Memory × Memory × Memory × Memory :=
  (s.cfg, s.ring, s.lineBuf, s.bufPing, s.bufPong)

/-- What `RingInv` reads. -/
def ringView (s : State) : Config × Nat × Nat × Nat × Nat × Bool × Bool :=
  (s.cfg, s.prodCursor, s.consCursor, s.produced, s.consumed, s.overrun, s.captureEnabled)

/-- What `ParserInv` reads. -/
def parserView (s : State) : Config × Variant × ParserState × Bool × Nat × Byte × Nat :=
  (s.cfg, s.variant, s.pstate, s.frameLocked, s.lineCount, s.rowAddr, s.gapRemaining)

/-- What `AssemblerInv` reads. -/
def assemblerView (s : State) :
    Config × Variant × Memory × Memory × BufferId × BitVec 256 × Nat × Byte :=
  (s.cfg, s.variant, s.bufPing, s.bufPong, s.active, s.placed, s.placedCount, s.prevRow)

/-- What `SenderInv` reads. -/
def senderView (s : State) : Config × Variant × Bool × Nat :=
  (s.cfg, s.variant, s.pending, s.sendCursor)

section soundness

variable {s t : State}

theorem MemoryInv.congr (h : MemoryInv s) (e : memoryView t = memoryView s) : MemoryInv t := by
  simp only [memoryView, Prod.mk.injEq] at e
  obtain ⟨ecfg, ering, eline, eping, epong⟩ := e
  constructor <;> simp only [ecfg, ering, eline, eping, epong]
  exacts [h.ring_wf, h.line_wf, h.ping_wf, h.pong_wf, h.ring_within, h.line_within, h.ping_within,
    h.pong_within]

theorem RingInv.congr (h : RingInv s) (e : ringView t = ringView s) : RingInv t := by
  simp only [ringView, Prod.mk.injEq] at e
  obtain ⟨ecfg, eprod, econs, eproduced, econsumed, eoverrun, ecapture⟩ := e
  constructor <;> simp only [ecfg, eprod, econs, eproduced, econsumed, eoverrun, ecapture]
  exacts [h.prod, h.cons, h.order, h.room, h.capture]

theorem State.desc_congr (ecfg : t.cfg = s.cfg) (evariant : t.variant = s.variant) : t.desc = s.desc := by
  rw [State.desc, ecfg, evariant, State.desc]

theorem ParserInv.congr (h : ParserInv s) (e : parserView t = parserView s) : ParserInv t := by
  simp only [parserView, Prod.mk.injEq] at e
  obtain ⟨ecfg, evariant, epstate, elocked, ecount, erow, egap⟩ := e
  have edesc := State.desc_congr ecfg evariant
  constructor <;> simp only [ecfg, edesc, epstate, elocked, ecount, erow, egap]
  exacts [h.open_iff, h.closed, h.row, h.gap, h.gap_le, h.unlocked]

theorem AssemblerInv.congr (h : AssemblerInv s) (e : assemblerView t = assemblerView s) :
    AssemblerInv t := by
  simp only [assemblerView, Prod.mk.injEq] at e
  obtain ⟨ecfg, evariant, eping, epong, eactive, eplaced, ecount, erow⟩ := e
  have edesc := State.desc_congr ecfg evariant
  have eread : ∀ k o, bufRead t k o = bufRead s k o := by
    intro k o
    cases k <;> simp only [bufRead, buffer, eping, epong]
  constructor <;> simp only [edesc, eread, isPlaced, eactive, eplaced, ecount, erow]
  exacts [h.count, h.above, h.blank, h.order]

theorem SenderInv.congr (h : SenderInv s) (e : senderView t = senderView s) : SenderInv t := by
  simp only [senderView, Prod.mk.injEq] at e
  obtain ⟨ecfg, evariant, epending, ecursor⟩ := e
  constructor <;> simp only [packetSize, State.desc_congr ecfg evariant, epending, ecursor]
  exacts [h.idle, h.sending]

/-- What the invariant reads, of every unit. -/
def invView (s : State) :=
  (memoryView s, ringView s, parserView s, assemblerView s, senderView s)

/-- A step that writes nothing the invariant reads keeps it. -/
theorem Inv.congr (h : Inv s) (e : invView t = invView s) : Inv t := by
  simp only [invView, Prod.mk.injEq] at e
  obtain ⟨ememory, ering, eparser, eassembler, esender⟩ := e
  have ecfg : t.cfg = s.cfg := congrArg Prod.fst ememory
  exact ⟨ecfg ▸ h.cfg, h.memory.congr ememory, h.ring.congr ering, h.parser.congr eparser,
    h.assembler.congr eassembler, h.sender.congr esender⟩

/-- What is sound in the middle of a PARSE: every unit but the parser, and the range of its gap budget. -/
structure MidParseInv (s : State) : Prop where
  cfg : s.cfg.wf = true
  memory : MemoryInv s
  ring : RingInv s
  gap_le : s.gapRemaining ≤ s.cfg.maxGap + s.cfg.maxRecord
  assembler : AssemblerInv s
  sender : SenderInv s

theorem Inv.midParse (h : Inv s) : MidParseInv s := { h with gap_le := h.parser.gap_le }

/-- What the units beside the line buffer and the parser read. -/
def otherUnitsView (s : State) := (ringView s, assemblerView s, senderView s)

theorem MidParseInv.congr (h : MidParseInv s)
    (e : (memoryView t, otherUnitsView t, t.gapRemaining) =
      (memoryView s, otherUnitsView s, s.gapRemaining)) : MidParseInv t := by
  simp only [otherUnitsView, Prod.mk.injEq] at e
  obtain ⟨ememory, ⟨ering, eassembler, esender⟩, egap⟩ := e
  have ecfg : t.cfg = s.cfg := congrArg Prod.fst ememory
  exact ⟨ecfg ▸ h.cfg, h.memory.congr ememory, h.ring.congr ering, by rw [egap, ecfg]; exact h.gap_le,
    h.assembler.congr eassembler, h.sender.congr esender⟩

/-- A row of PARSE that writes the line buffer and the parser alone need only show these two sound. -/
theorem MidParseInv.inv (h : MidParseInv s) (m : MemoryInv t) (p : ParserInv t)
    (e : otherUnitsView t = otherUnitsView s) : Inv t := by
  simp only [otherUnitsView, Prod.mk.injEq] at e
  obtain ⟨ering, eassembler, esender⟩ := e
  have ecfg : t.cfg = s.cfg := congrArg Prod.fst ering
  exact ⟨ecfg ▸ h.cfg, m, h.ring.congr ering, p, h.assembler.congr eassembler, h.sender.congr esender⟩

/-! ### The storage spaces (R70) -/

theorem MemoryInv.ringWrite (h : MemoryInv s) (i : Nat) (b : Byte) : MemoryInv (ringWrite i b s) :=
  { h with
    ring_wf := Memory.wf_write _ _ _ h.ring_wf
    ring_within := Memory.within_write _ _ _ h.ring_within (Nat.mod_lt _ (Config.ringN_pos _)) }

theorem MemoryInv.lineWrite (h : MemoryInv s) {j : Nat} (b : Byte) (hj : j < s.cfg.maxRecord) :
    MemoryInv (lineWrite j b s) :=
  { h with
    line_wf := Memory.wf_write _ _ _ h.line_wf
    line_within := Memory.within_write _ _ _ h.line_within hj }

theorem MemoryInv.buffer_wf (h : MemoryInv s) (k : BufferId) : (buffer s k).wf = true := by
  cases k
  exacts [h.ping_wf, h.pong_wf]

theorem MemoryInv.buffer_within (h : MemoryInv s) (k : BufferId) :
    (buffer s k).within s.cfg.bufferSize = true := by
  cases k
  exacts [h.ping_within, h.pong_within]

theorem MemoryInv.setBuffer (h : MemoryInv s) (k : BufferId) {m : Memory} (hwf : m.wf = true)
    (hin : m.within s.cfg.bufferSize = true) : MemoryInv (setBuffer k m s) := by
  cases k with
  | ping => exact { h with ping_wf := hwf, ping_within := hin }
  | pong => exact { h with pong_wf := hwf, pong_within := hin }

theorem MemoryInv.bufClear (h : MemoryInv s) (k : BufferId) (n : Nat) : MemoryInv (bufClear k n s) :=
  h.setBuffer k (Memory.wf_clearBelow _ _ (h.buffer_wf k)) (Memory.within_clearBelow _ _ (h.buffer_within k))

theorem MemoryInv.bufWriteBytes (h : MemoryInv s) (k : BufferId) {o : Nat} {bs : List Byte}
    (ho : o + bs.length ≤ s.cfg.bufferSize) : MemoryInv (bufWriteBytes k o bs s) :=
  h.setBuffer k (Memory.wf_writeBytes _ _ _ (h.buffer_wf k))
    (Memory.within_writeBytes _ _ _ (h.buffer_within k) ho)

theorem MemoryInv.activate (h : MemoryInv s) (k : BufferId) : MemoryInv (activate k s) :=
  (h.bufClear k s.desc.frameSize).congr rfl

theorem MemoryInv.boundaryDrop (h : MemoryInv s) : MemoryInv (boundaryDrop s) := by
  have hd : MemoryInv (emit (.frameDropped s.frameId) (countDropped s)) := h.congr rfl
  exact hd.activate s.active

theorem MemoryInv.boundaryHandoff (h : MemoryInv s) : MemoryInv (boundaryHandoff s) := by
  have hs : MemoryInv (swapActive (countSent (stampHeader (takeSlot s)))) :=
    h.congr (by simp [memoryView])
  exact hs.activate s.active.other

theorem MemoryInv.boundary (h : MemoryInv s) : MemoryInv (boundary s) := by
  have hn : MemoryInv (nextFrameId s) := h.congr rfl
  unfold Machine.boundary
  split_ifs
  · exact hn.boundaryDrop
  · exact hn.boundaryHandoff

/-- The pixels of row `r` end inside the frame (R73). -/
theorem Descriptor.row_end_le (d : Descriptor) {r : Nat} (hr : r < d.height) :
    r * d.width + d.width ≤ d.frameSize := by
  calc r * d.width + d.width = (r + 1) * d.width := (Nat.succ_mul _ _).symm
    _ ≤ d.height * d.width := Nat.mul_le_mul_right _ hr
    _ = d.frameSize := Nat.mul_comm _ _

theorem MemoryInv.placeIfActive (h : MemoryInv s) {row : Byte} {bytes : List Byte}
    (hlen : bytes.length = s.desc.width) : MemoryInv (placeIfActive row bytes s) := by
  unfold Machine.placeIfActive
  split_ifs with hr
  · have hb : MemoryInv (Machine.bufWriteBytes s.active (row.toNat * s.desc.width) bytes s) :=
      h.bufWriteBytes _ (hlen ▸ (Descriptor.row_end_le s.desc hr).trans s.frameSize_le)
    exact hb.congr (by simp [memoryView, placeLine])
  · exact h

theorem MemoryInv.handleLine (h : MemoryInv s) {row : Byte} {bytes : List Byte}
    (hlen : bytes.length = s.desc.width) : MemoryInv (handleLine row bytes s) := by
  unfold Machine.handleLine
  split_ifs
  · exact (h.boundary.placeIfActive (by simpa using hlen)).congr rfl
  · exact (h.placeIfActive hlen).congr rfl

theorem MemoryInv.modeSwitch (h : MemoryInv s) (v : Variant) : MemoryInv (modeSwitch v s) :=
  ((h.bufClear .ping s.cfg.bufferSize).bufClear .pong s.cfg.bufferSize).congr
    (by simp [memoryView, Machine.bufClear, buffer])

/-! ### The byte ring (R33, R34, R36, R127) -/

theorem RingInv.producer (h : RingInv s) (b : Byte) : RingInv (producer b s) where
  prod := by simp [h.prod]
  cons := h.cons
  order := Nat.le_succ_of_le h.order
  room := by simp
  capture := h.capture

/-- A batch takes no more than what is unread (R123). -/
theorem RingInv.batchSize_le (h : RingInv s) : batchSize s ≤ s.produced - s.consumed :=
  calc batchSize s ≤ available s := Nat.min_le_left _ _
    _ = (s.produced - s.consumed) % s.cfg.ringN := available_eq h
    _ ≤ s.produced - s.consumed := Nat.mod_le _ _

theorem RingInv.consumer (h : RingInv s) : RingInv (consumer s) where
  prod := by simpa using h.prod
  cons := by simp [ringIndex, h.cons]
  order := by
    have := h.batchSize_le
    have := h.order
    simp only [consumer_consumed, consumer_produced]
    omega
  room := by
    intro ho
    have := h.room (by simpa using ho)
    simp only [consumer_consumed, consumer_produced, consumer_cfg]
    omega
  capture := by simpa using h.capture

theorem RingInv.modeSwitch (v : Variant) (s : State) : RingInv (modeSwitch v s) := by
  constructor <;> simp [Config.ringN_pos]

/-! ### The line parser (R37 to R42) -/

/-- A record of the active variant holds more than its sync and row bytes (WF4, R90). -/
theorem State.two_lt_recordSize (h : s.cfg.wf = true) : 2 < s.desc.recordSize := by
  have := (Descriptor.wf_bounds (State.desc_wf h)).1
  unfold Descriptor.recordSize
  omega

/-- A record that is open (R40, R144). -/
theorem ParserInv.of_readingLine (hp : s.pstate = .readingLine) (h1 : 1 ≤ s.lineCount)
    (hl : s.lineCount < s.desc.recordSize) (hr : 2 ≤ s.lineCount → s.rowAddr.toNat < s.desc.totalLines)
    (hg : s.gapRemaining ≤ s.cfg.maxGap + s.cfg.maxRecord) : ParserInv s where
  open_iff := by simp [hp, h1, hl]
  closed := by simp [hp]
  row := hr
  gap := by simp [hp]
  gap_le := hg
  unlocked := by simp [hp]

/-- A gap (R42). -/
theorem ParserInv.of_scanningGap (hp : s.pstate = .scanningGap) (h0 : s.lineCount = 0)
    (h1 : 1 ≤ s.gapRemaining) (hg : s.gapRemaining ≤ s.cfg.maxGap + s.cfg.maxRecord) : ParserInv s where
  open_iff := by simp [hp, h0]
  closed := by simp [h0]
  row := by simp [h0]
  gap := by simp [h1]
  gap_le := hg
  unlocked := by simp [hp]

/-- The search for a sync byte (R142). -/
theorem ParserInv.of_scanningForSync (hp : s.pstate = .scanningForSync) (h0 : s.lineCount = 0)
    (hu : s.frameLocked = false) (hg : s.gapRemaining ≤ s.cfg.maxGap + s.cfg.maxRecord) :
    ParserInv s where
  open_iff := by simp [hp, h0]
  closed := by simp [h0]
  row := by simp [h0]
  gap := by simp [hp]
  gap_le := hg
  unlocked := by simp [hu]

/-- The extended budget is in range (R155, R42). -/
theorem extendedBudget_le (s : State) : extendedBudget s ≤ s.cfg.maxGap + s.cfg.maxRecord :=
  Nat.add_le_add_left s.recordSize_le _

theorem one_le_extendedBudget (h : s.cfg.wf = true) : 1 ≤ extendedBudget s :=
  Nat.le_add_right_of_le (Config.wf_bounds h).2

/-- The store of a sync byte stays inside the line buffer (R142, R146). -/
theorem State.maxRecord_pos (s : State) : 0 < s.cfg.maxRecord :=
  (Nat.zero_lt_succ _).trans_le s.recordSize_le

/-- So does the store of R143, after which the row check or the completion is due. -/
theorem Inv.midParse_accumulate (h : Inv s) (b : Byte) (hp : s.pstate = .readingLine) :
    MidParseInv (accumulate b s) where
  cfg := h.cfg
  memory := by
    have hl : s.lineCount < s.cfg.maxRecord := (h.parser.open_iff.mp hp).2.trans_le s.recordSize_le
    exact (h.memory.lineWrite b hl).congr rfl
  ring := h.ring.congr rfl
  gap_le := h.parser.gap_le
  assembler := h.assembler.congr rfl
  sender := h.sender.congr rfl

theorem Inv.openRecord (h : Inv s) (b : Byte) : Inv (openRecord b s) :=
  h.midParse.inv ((h.memory.lineWrite b (State.maxRecord_pos s)).congr rfl)
    (.of_readingLine rfl le_rfl (Nat.lt_of_succ_lt (State.two_lt_recordSize h.cfg)) (by simp)
      h.parser.gap_le) rfl

/-- A byte between the row byte and the last one (R143). -/
theorem Inv.accumulate (h : Inv s) (b : Byte) (hp : s.pstate = .readingLine) (row : s.lineCount ≠ 1)
    (last : s.lineCount + 1 ≠ s.desc.recordSize) : Inv (accumulate b s) := by
  obtain ⟨h1, hl⟩ := h.parser.open_iff.mp hp
  have hu := h.midParse_accumulate b hp
  exact hu.inv hu.memory (.of_readingLine hp (Nat.le_add_left 1 _) (Nat.lt_of_le_of_ne hl last)
    (fun _ => h.parser.row (by omega)) hu.gap_le) rfl

theorem MidParseInv.rowAccepted (h : MidParseInv s) (hp : s.pstate = .readingLine)
    (row : s.lineCount = 2) (range : rowInRange s = true) : Inv (rowAccepted s) := by
  have hl : 2 < s.desc.recordSize := State.two_lt_recordSize h.cfg
  exact h.inv (h.memory.congr rfl)
    (.of_readingLine hp (row ▸ one_le_two) (row ▸ hl) (fun _ => (rowInRange_iff s).mp range) h.gap_le) rfl

/-- A gap entered with the record closed and a budget in range (R145, R150, R151). -/
theorem MidParseInv.enterGap (h : MidParseInv s) (h0 : s.lineCount = 0) {n : Nat} (h1 : 1 ≤ n)
    (hn : n ≤ s.cfg.maxGap + s.cfg.maxRecord) : Inv (enterGap n s) :=
  h.inv (h.memory.congr rfl) (.of_scanningGap rfl h0 h1 hn) rfl

theorem MidParseInv.rowLocked (h : MidParseInv s) : Inv (rowLocked s) := by
  have hu : MidParseInv (emit (.rowRangeLocked (s.desc.row (rowByte s))) (closeRecord s)) := h.congr rfl
  exact hu.enterGap rfl (one_le_extendedBudget h.cfg) (extendedBudget_le s)

theorem MidParseInv.rowFalseSync (h : MidParseInv s) (hp : s.pstate = .readingLine) :
    Inv (rowFalseSync s) :=
  h.inv ((h.memory.lineWrite (rowByte s) (State.maxRecord_pos s)).congr rfl)
    (.of_readingLine hp le_rfl (Nat.lt_of_succ_lt (State.two_lt_recordSize h.cfg))
      (fun h2 => absurd h2 (Nat.not_succ_le_self 1)) h.gap_le) rfl

theorem MidParseInv.rowFallback (h : MidParseInv s) (lock : s.frameLocked = false) :
    Inv (rowFallback s) := by
  have hu : MidParseInv (emit (.falseSync (rowByte s)) (closeRecord s)) := h.congr rfl
  exact hu.inv (hu.memory.congr rfl) (.of_scanningForSync rfl rfl lock hu.gap_le) rfl

theorem MidParseInv.crcMismatch (h : MidParseInv s) (h0 : s.lineCount = 0) : Inv (crcMismatch s) := by
  have hu : MidParseInv (countCrcErr s) := h.congr rfl
  have hv : MidParseInv (emit (.crcMismatch s.rowAddr (crcCalc s) (crcField s)) (countCrcErr s)) :=
    hu.congr rfl
  exact hv.enterGap h0 (one_le_extendedBudget h.cfg) (extendedBudget_le s)

theorem Inv.gapFill (h : Inv s) (hp : s.pstate = .scanningGap) (budget : 2 ≤ s.gapRemaining) :
    Inv (gapFill s) :=
  h.midParse.inv (h.memory.congr rfl)
    (.of_scanningGap hp (h.parser.closed (by simp [hp])) (Nat.le_sub_of_add_le budget)
      ((Nat.sub_le _ _).trans h.parser.gap_le)) rfl

theorem Inv.gapExhaust (h : Inv s) (hp : s.pstate = .scanningGap) : Inv (gapExhaust s) :=
  h.midParse.inv (h.memory.congr rfl)
    (.of_scanningForSync rfl (h.parser.closed (by simp [hp])) rfl (Nat.zero_le _)) rfl

/-! ### The frame assembler (R46 to R48, R182) -/

/-- With no row placed, the invariant of the assembler is that the active frame is blank (I7 of R59). -/
theorem AssemblerInv.of_empty (hp : s.placed = 0) (hc : s.placedCount = 0)
    (hz : ∀ o < s.desc.frameSize, bufRead s s.active o = 0) : AssemblerInv s where
  count := by rw [hc, hp, placedBelow_zero]
  above := by simp [isPlaced, hp]
  blank r c hr hcol _ := by
    have := Descriptor.row_end_le s.desc hr
    exact hz _ (by omega)
  order := by simp [isPlaced, hp]

theorem AssemblerInv.boundaryDrop (s : State) : AssemblerInv (boundaryDrop s) :=
  .of_empty (by simp) (by simp) fun o ho => by
    simp only [boundaryDrop_desc] at ho
    simp [bufRead, buffer_boundaryDrop, Memory.read_clearBelow, ho]

theorem AssemblerInv.boundaryHandoff (s : State) : AssemblerInv (boundaryHandoff s) :=
  .of_empty (by simp) (by simp) fun o ho => by
    simp only [boundaryHandoff_desc] at ho
    simp [bufRead, buffer_boundaryHandoff, Memory.read_clearBelow, ho]

/-- A boundary starts an empty frame, whatever was in the one before it (R174 to R177). -/
theorem AssemblerInv.boundary (s : State) : AssemblerInv (boundary s) := by
  unfold Machine.boundary
  split_ifs
  · exact .boundaryDrop _
  · exact .boundaryHandoff _

/-- A row that makes no boundary is no smaller than any placed one: either none is placed, or the row is
greater than the previous line's (R172, R182). -/
theorem AssemblerInv.placed_le (h : AssemblerInv s) {row : Byte} (hb : isBoundary s row = false) {r : Nat}
    (hr : isPlaced s r = true) : r ≤ row.toNat := by
  have hH : r < s.desc.height := by
    by_contra hge
    exact absurd hr (by simp [h.above r (not_lt.mp hge)])
  have hpos : 0 < s.placedCount := by
    rw [h.count]
    refine Nat.pos_of_ne_zero fun h0 => ?_
    exact absurd hr (by simp [isPlaced, placedBelow_eq_zero h0 hH])
  have hlt : s.prevRow < row := by
    by_contra hle
    exact absurd ((isBoundary_iff s row).mpr ⟨hpos, BitVec.not_lt.mp hle⟩) (by simp [hb])
  exact (h.order r hr).trans (BitVec.lt_def.mp hlt).le

/-- The bookkeeping of PLACE for a row that is placed already: none (R179). -/
theorem placeLine_again {row : Byte} (bytes : List Byte) (h : isPlaced s row.toNat = true) :
    (placeLine row bytes s).placed = s.placed ∧ (placeLine row bytes s).placedCount = s.placedCount := by
  have h' : s.placed.getLsbD row.toNat = true := h
  simp [placeLine, markPlaced, isPlaced, h']

/-- The rows placed after PLACE (R179). -/
theorem isPlaced_placeLine (row : Byte) (bytes : List Byte) (s : State) (r : Nat) :
    isPlaced (placeLine row bytes s) r = (isPlaced s r || decide (r = row.toNat)) := by
  cases hp : isPlaced s row.toNat with
  | false =>
    rw [isPlaced, (placeLine_new bytes hp).1, getLsbD_placedWith _ _ _ row.isLt, isPlaced]
  | true =>
    rw [isPlaced, (placeLine_again bytes hp).1, ← isPlaced]
    by_cases hr : r = row.toNat <;> simp [hr, hp]

/-- The count stays that of the rows placed below `H` (R47, R179). -/
theorem AssemblerInv.count_placeLine (h : AssemblerInv s) {row : Byte} (bytes : List Byte)
    (hr : row.toNat < s.desc.height) :
    (placeLine row bytes s).placedCount = placedBelow (placeLine row bytes s).placed s.desc.height := by
  cases hp : isPlaced s row.toNat with
  | false =>
    obtain ⟨hplaced, hcount⟩ := placeLine_new bytes hp
    rw [hplaced, hcount, placedBelow_with _ _ _ row.isLt hp, if_pos hr, h.count]
  | true =>
    obtain ⟨hplaced, hcount⟩ := placeLine_again bytes hp
    rw [hplaced, hcount, h.count]

/-- A pixel lies in one row of the frame only (R73). -/
theorem row_eq_of_pixel {w r c r' : Nat} (hc : c < w) (hlo : r' * w ≤ r * w + c)
    (hhi : r * w + c < r' * w + w) : r = r' := by
  have hr : (r * w + c) / w = r :=
    Nat.div_eq_of_lt_le (Nat.le_add_right _ _) (by rw [Nat.succ_mul]; exact Nat.add_lt_add_left hc _)
  have hr' : (r * w + c) / w = r' := Nat.div_eq_of_lt_le hlo (by rwa [Nat.succ_mul])
  exact hr.symm.trans hr'

/-- PLACE writes the pixels of its own row and no other (R178). -/
theorem bufRead_placeLine_of_ne (h : MemoryInv s) {row : Byte} {bytes : List Byte}
    (hlen : bytes.length = s.desc.width) {r c : Nat} (hr : r ≠ row.toNat) (hc : c < s.desc.width) :
    bufRead (placeLine row bytes s) s.active (r * s.desc.width + c) =
      bufRead s s.active (r * s.desc.width + c) := by
  have hout : ¬(row.toNat * s.desc.width ≤ r * s.desc.width + c ∧
      r * s.desc.width + c < row.toNat * s.desc.width + bytes.length) :=
    fun ⟨hlo, hhi⟩ => hr (row_eq_of_pixel hc hlo (hlen ▸ hhi))
  rw [bufRead, buffer_placeLine, if_pos rfl, Memory.read_writeBytes _ _ _ _ (h.buffer_wf _), if_neg hout,
    bufRead]

/-- HANDLE_LINE from the boundary on keeps the invariant of the assembler (R178 to R182). -/
theorem AssemblerInv.placeIfActive (h : AssemblerInv s) (hm : MemoryInv s) {row : Byte}
    {bytes : List Byte} (hlen : bytes.length = s.desc.width) (hb : isBoundary s row = false) :
    AssemblerInv (setPrevRow row (placeIfActive row bytes s)) := by
  unfold Machine.placeIfActive
  split_ifs with hrow
  · have hplaced : ∀ r, isPlaced (setPrevRow row (placeLine row bytes s)) r =
        (isPlaced s r || decide (r = row.toNat)) := isPlaced_placeLine row bytes s
    constructor
    case count => simpa using h.count_placeLine bytes hrow
    case above =>
      intro r hr
      simp only [setPrevRow_desc, placeLine_desc] at hr
      have hne : r ≠ row.toNat := by omega
      simp [hplaced, h.above r hr, hne]
    case blank =>
      intro r c hr hc hp
      simp only [hplaced, Bool.or_eq_false_iff, decide_eq_false_iff_not] at hp
      simp only [setPrevRow_desc, placeLine_desc, setPrevRow_active, placeLine_active] at hr hc ⊢
      exact (bufRead_placeLine_of_ne hm hlen hp.2 hc).trans (h.blank r c hr hc hp.1)
    case order =>
      intro r hr
      simp only [hplaced, Bool.or_eq_true, decide_eq_true_eq] at hr
      exact hr.elim (h.placed_le hb) le_of_eq
  · exact ⟨h.count, h.above, h.blank, fun r hr => h.placed_le hb hr⟩

theorem AssemblerInv.handleLine (h : AssemblerInv s) (hm : MemoryInv s) {row : Byte}
    {bytes : List Byte} (hlen : bytes.length = s.desc.width) : AssemblerInv (handleLine row bytes s) := by
  cases hb : isBoundary s row with
  | true =>
    rw [handleLine_of_boundary bytes hb]
    exact (AssemblerInv.boundary s).placeIfActive hm.boundary (by simpa using hlen)
      (isBoundary_boundary row s)
  | false =>
    rw [handleLine_of_no_boundary bytes hb]
    exact h.placeIfActive hm hlen hb

theorem AssemblerInv.modeSwitch (v : Variant) (s : State) : AssemblerInv (modeSwitch v s) :=
  .of_empty (by simp) (by simp) fun o ho => by
    have hlt : o < s.cfg.bufferSize := by simpa using ho.trans_le (State.frameSize_le _)
    simp [bufRead, buffer, Memory.read_clearBelow, hlt]

/-! ### The frame sender (R51) -/

theorem packetSize_pos (s : State) : 0 < packetSize s :=
  Nat.lt_of_lt_of_le (by decide) (Nat.le_add_right 8 _)

theorem SenderInv.boundary (h : SenderInv s) : SenderInv (boundary s) := by
  cases hp : s.pending with
  | true =>
    rw [boundary_of_pending hp]
    exact h.congr (by simp [senderView])
  | false =>
    rw [boundary_of_free hp]
    exact ⟨by simp, fun _ => by simpa using packetSize_pos _⟩

theorem SenderInv.handleLine (h : SenderInv s) (row : Byte) (bytes : List Byte) :
    SenderInv (handleLine row bytes s) := by
  unfold Machine.handleLine
  split_ifs
  · exact h.boundary.congr (by simp [senderView])
  · exact h.congr (by simp [senderView])

theorem SenderInv.of_free (hp : s.pending = false) (hc : s.sendCursor = 0) : SenderInv s :=
  ⟨fun _ => hc, fun h => absurd h (by simp [hp])⟩

/-- A POLL sends what is accepted and stops short of the total, or frees the slot (R204, R205). -/
theorem SenderInv.sendPoll (h : SenderInv s) {room k : Nat} (hp : s.pending = true)
    (hk : offerSize room s = 0 ∨ k ≤ offerSize room s) : SenderInv (sendPoll room k s) := by
  have hlt : s.sendCursor < packetSize s := h.sending hp
  have hoffer : offerSize room s ≤ packetSize s - s.sendCursor := Nat.min_le_right _ _
  rcases Nat.eq_zero_or_pos (offerSize room s) with h0 | hpos
  · have hsame : Machine.sendPoll room k s = s := by simp [Machine.sendPoll, h0, hlt.ne]
    rw [hsame]
    exact h
  · by_cases hend : s.sendCursor + k = packetSize s
    · rw [sendPoll_last hpos hend]
      exact .of_free rfl rfl
    · rw [sendPoll_partial hpos hend]
      refine ⟨fun hf => absurd hf (by simp [hp]), fun _ => ?_⟩
      show s.sendCursor + k < packetSize s
      omega

/-! ### The invariant along the operations -/

theorem MidParseInv.handleLine (h : MidParseInv s) {row : Byte} {bytes : List Byte}
    (hlen : bytes.length = s.desc.width) : MidParseInv (handleLine row bytes s) where
  cfg := by simpa using h.cfg
  memory := h.memory.handleLine hlen
  ring := h.ring.congr (by simp [ringView])
  gap_le := by simpa using h.gap_le
  assembler := h.assembler.handleLine h.memory hlen
  sender := h.sender.handleLine row bytes

/-- A validated line (R151). -/
theorem MidParseInv.crcMatch (h : MidParseInv s) (h0 : s.lineCount = 0) : Inv (crcMatch s) := by
  have hu : MidParseInv (countCrcOk s) := h.congr rfl
  have hline : MidParseInv (Machine.handleLine s.rowAddr (payload s) (countCrcOk s)) :=
    hu.handleLine (by simp [payload])
  have hlock : MidParseInv (lockFrame (Machine.handleLine s.rowAddr (payload s) (countCrcOk s))) :=
    hline.congr rfl
  exact hlock.enterGap (by simpa using h0) (Config.wf_bounds h.cfg).2 (by simp)

/-- The record closed for its completion (R148). -/
theorem MidParseInv.closeRecord (h : MidParseInv s) : MidParseInv (closeRecord s) := h.congr rfl

theorem Inv.parseCase {b : Byte} (h : Inv s) (c : ParseCase b s t) : Inv t := by
  cases c with
  | discard _ _ e => exact e ▸ h
  | opened _ _ e => exact e ▸ h.openRecord b
  | stored hp row last e => exact e ▸ h.accumulate b hp row last
  | rowAccepted hp row range e =>
    exact e ▸ (h.midParse_accumulate b hp).rowAccepted hp (congrArg (· + 1) row) range
  | rowLocked hp _ _ _ e => exact e ▸ (h.midParse_accumulate b hp).rowLocked
  | rowFalseSync hp _ _ _ _ e => exact e ▸ (h.midParse_accumulate b hp).rowFalseSync hp
  | rowFallback hp _ _ lock _ e => exact e ▸ (h.midParse_accumulate b hp).rowFallback lock
  | crcMatch hp _ _ _ e => exact e ▸ (h.midParse_accumulate b hp).closeRecord.crcMatch rfl
  | crcMismatch hp _ _ _ e => exact e ▸ (h.midParse_accumulate b hp).closeRecord.crcMismatch rfl
  | gapFill hp _ budget e => exact e ▸ h.gapFill hp budget
  | gapExhaust hp _ _ e => exact e ▸ h.gapExhaust hp

theorem Inv.parse (h : Inv s) (b : Byte) : Inv (parse b s) := h.parseCase (parse_cases b s)

/-- A move of the consumer cursor that keeps the ring sound keeps all of it (R123). -/
theorem Inv.moveConsumer (h : Inv s) {c n : Nat}
    (hr : RingInv { s with consCursor := c, consumed := n }) :
    Inv { s with consCursor := c, consumed := n } :=
  ⟨h.cfg, h.memory.congr rfl, hr, h.parser.congr rfl, h.assembler.congr rfl, h.sender.congr rfl⟩

theorem Inv.consumer (h : Inv s) : Inv (consumer s) := by
  have hs : Inv (samplePeak s) := h.congr rfl
  have hu := parseBytes_induction (fun b _ hs => hs.parse b) (ringBytes s (batchSize s)) _ hs
  exact hu.moveConsumer h.ring.consumer

theorem Inv.producer (h : Inv s) (b : Byte) : Inv (producer b s) :=
  ⟨h.cfg, (h.memory.ringWrite s.prodCursor b).congr rfl, h.ring.producer b, h.parser.congr rfl,
    h.assembler.congr rfl, h.sender.congr rfl⟩

theorem Inv.sendAbandon (h : Inv s) : Inv (sendAbandon s) :=
  ⟨h.cfg, h.memory.congr rfl, h.ring.congr rfl, h.parser.congr rfl, h.assembler.congr rfl,
    .of_free rfl rfl⟩

theorem Inv.sendPoll (h : Inv s) {room k : Nat} (hp : s.pending = true)
    (hk : offerSize room s = 0 ∨ k ≤ offerSize room s) : Inv (sendPoll room k s) :=
  ⟨by simpa using h.cfg, h.memory.congr (by simp [memoryView]), h.ring.congr (by simp [ringView]),
    h.parser.congr (by simp [parserView]), h.assembler.congr (by simp [assemblerView]),
    h.sender.sendPoll hp hk⟩

theorem Inv.modeSwitch (h : Inv s) (v : Variant) : Inv (modeSwitch v s) where
  cfg := by simpa using h.cfg
  memory := h.memory.modeSwitch v
  ring := .modeSwitch v s
  parser := .of_scanningForSync (by simp) (by simp) (by simp) (by simpa using h.parser.gap_le)
  assembler := .modeSwitch v s
  sender := .of_free (by simp) (by simp)

theorem Inv.takeMove (h : Inv s) : Inv (takeMove s) :=
  h.congr (by simp [invView, memoryView, ringView, parserView, assemblerView, senderView])

theorem Inv.setQueue (h : Inv s) (q : List Byte) : Inv (setQueue q s) := h.congr rfl

theorem Inv.exec_command (h : Inv s) {c : Command} (e : exec c.instr s = .next t) : Inv t := by
  obtain ⟨k, rfl, rfl⟩ | ⟨k, rfl, rfl⟩ | ⟨k, rfl, rfl⟩ | ⟨k, rfl, rfl⟩ | ⟨k, rfl, rfl⟩ | ⟨b, rfl, rfl⟩ :=
    exec_command_cases e
  · exact h.modeSwitch _
  · exact h.modeSwitch _
  all_goals
    exact h.congr (by simp [invView, memoryView, ringView, parserView, assemblerView, senderView])

theorem Inv.step (h : Inv s) (e : step s = .next t) : Inv t := by
  have hm : Inv (Machine.takeMove s) := h.takeMove
  cases step_cases e with
  | boot hb e =>
    have hs : Inv { s with booting := false } := h.congr rfl
    exact e ▸ hs.modeSwitch _
  | produce b hb m capture e => exact e ▸ hm.producer b
  | consume hb m e => exact e ▸ hm.consumer
  | idle a hb m p e => exact e ▸ hm
  | disconnect a hb m p e => exact e ▸ hm.sendAbandon
  | write a hb m p k e => exact e ▸ hm.sendPoll (by simpa using p) k
  | cmd c rest hb m q e => exact (hm.setQueue rest).exec_command e
  | host c hb m e => exact e ▸ hm.setQueue _

theorem Inv.coldStart {c : Config} {ring line : Memory} (hc : c.wf = true) (ring_wf : ring.wf = true)
    (line_wf : line.wf = true) (ring_within : ring.within c.ringN = true)
    (line_within : line.within c.maxRecord = true) : Inv (State.coldStart c ring line) where
  cfg := hc
  memory := ⟨ring_wf, line_wf, rfl, rfl, ring_within, line_within, rfl, rfl⟩
  ring := ⟨(Nat.zero_mod _).symm, (Nat.zero_mod _).symm, le_rfl, fun _ => Config.ringN_pos c, rfl⟩
  parser := .of_scanningForSync rfl rfl rfl (Nat.zero_le _)
  assembler := .of_empty rfl rfl fun _ _ => rfl
  sender := .of_free rfl rfl

/-! ### The history (R56) and the bytes forwarded (R52) -/

/-- A line records at most the drop of a frame (R174). -/
theorem handleLine_history_grows (row : Byte) (bytes : List Byte) (s : State) :
    s.history <+: (handleLine row bytes s).history := by
  unfold handleLine boundary
  split_ifs <;> simp

theorem crcMatch_history_grows (s : State) : s.history <+: (crcMatch s).history := by
  simpa [crcMatch] using handleLine_history_grows s.rowAddr (payload s) (countCrcOk s)

theorem parse_history_grows (b : Byte) (s : State) : s.history <+: (parse b s).history := by
  cases parse_cases b s with
  | crcMatch _ _ _ _ e =>
    simpa [e] using crcMatch_history_grows (closeRecord (accumulate b s))
  | _ =>
    simp [‹parse b s = _›, rowAccepted, rowLocked, rowFalseSync, rowFallback, crcMismatch, gapFill,
      gapExhaust]

theorem consumer_history_grows (s : State) : s.history <+: (consumer s).history :=
  parseBytes_induction (P := fun u => s.history <+: u.history)
    (fun b u hu => hu.trans (parse_history_grows b u)) _ (samplePeak s) (by simp [samplePeak])

theorem sendPoll_history_grows (room k : Nat) (s : State) :
    s.history <+: (sendPoll room k s).history := by
  unfold sendPoll
  dsimp only
  split_ifs <;> simp

theorem exec_command_history_grows {c : Command} (h : exec c.instr s = .next t) :
    s.history <+: t.history := by
  obtain ⟨k, rfl, rfl⟩ | ⟨k, rfl, rfl⟩ | ⟨k, rfl, rfl⟩ | ⟨k, rfl, rfl⟩ | ⟨k, rfl, rfl⟩ | ⟨b, rfl, rfl⟩ :=
    exec_command_cases h <;> simp

theorem step_history_grows (h : step s = .next t) : s.history <+: t.history := by
  cases step_cases h with
  | consume hb m e => simpa [e] using consumer_history_grows (takeMove s)
  | write a hb m p k e => simpa [e] using sendPoll_history_grows a.room a.accepted (takeMove s)
  | cmd c rest hb m q e => simpa using exec_command_history_grows e
  | boot hb e | produce b hb m capture e | idle a hb m p e | disconnect a hb m p e | host c hb m e =>
    simp [e]

/-- PARSE counts no byte as forwarded: only a POLL does (R204). -/
theorem parse_bytesForwarded (b : Byte) (s : State) :
    (parse b s).stats.bytesForwarded = s.stats.bytesForwarded := by
  cases parse_cases b s <;>
    simp [‹parse b s = _›, rowAccepted, rowLocked, rowFalseSync, rowFallback, crcMatch, crcMismatch,
      gapFill, gapExhaust]

theorem consumer_bytesForwarded (s : State) :
    (consumer s).stats.bytesForwarded = s.stats.bytesForwarded :=
  parseBytes_induction (P := fun u => u.stats.bytesForwarded = s.stats.bytesForwarded)
    (fun b u hu => (parse_bytesForwarded b u).trans hu) _ (samplePeak s) rfl

/-! ### The roles of the buffers (R45) -/

theorem role_eq_active_iff (s : State) (k : BufferId) : role s k = .active ↔ k = s.active := by
  unfold role
  split_ifs <;> simp [*]

theorem role_eq_pendingSend_iff (s : State) (k : BufferId) :
    role s k = .pendingSend ↔ k ≠ s.active ∧ s.pending = true := by
  unfold role
  split_ifs <;> simp [*]

theorem role_eq_idle_iff (s : State) (k : BufferId) :
    role s k = .idle ↔ k ≠ s.active ∧ s.pending = false := by
  unfold role
  split_ifs <;> simp [*]

/-- The completed buffer takes the slot and the other one becomes active (R175). -/
theorem role_boundaryHandoff (s : State) : role (boundaryHandoff s) s.active = .pendingSend ∧
    role (boundaryHandoff s) s.active.other = .active := by
  rw [role_eq_pendingSend_iff, role_eq_active_iff]
  simp [(BufferId.other_ne s.active).symm]

/-- Where a slot is given up, the buffer that held it goes idle and the active one stays (R203, R205). -/
theorem role_of_slot_freed (hp : s.pending = true) (ha : t.active = s.active) (hf : t.pending = false) :
    role s s.active.other = .pendingSend ∧ role t s.active.other = .idle ∧ role t s.active = .active := by
  rw [role_eq_pendingSend_iff, role_eq_idle_iff, role_eq_active_iff, ha]
  exact ⟨⟨BufferId.other_ne _, hp⟩, ⟨BufferId.other_ne _, hf⟩, rfl⟩

/-! ### The handed-off block (R294) and the record with no room (log 8) -/

/-- Once the block is handed off a guarded operation is refused (R294). -/
theorem whenRunning_of_handedOff (hc : s.cfg.wf = true) (ht : s.terminal = true)
    (o : Host.Outcome State Fault Refusal) : whenRunning s o = .refused .handedOff := by
  simp [whenRunning, hc, ht]

theorem exec_of_handedOff (hc : s.cfg.wf = true) (ht : s.terminal = true) (i : Instr) :
    exec i s = .refused .handedOff := by
  obtain ⟨o, ho⟩ := exec_guarded i s
  rw [ho, whenRunning_of_handedOff hc ht]

theorem runMove_of_handedOff (hc : s.cfg.wf = true) (ht : s.terminal = true) (m : Move) :
    runMove m s = .refused .handedOff := by
  obtain ⟨o, ho⟩ := runMove_guarded m s
  rw [ho, whenRunning_of_handedOff hc ht]

theorem step_of_handedOff (hc : s.cfg.wf = true) (ht : s.terminal = true) :
    step s = .refused .handedOff := by
  cases hb : s.booting with
  | true => rw [step_of_booting hb]; exact exec_of_handedOff (s := { s with booting := false }) hc ht _
  | false =>
    rw [step_of_booted hb]
    exact runMove_of_handedOff (by simpa using hc) (by simpa using ht) _

theorem recordOpen_eq_false (hp : s.pstate = .readingLine)
    (ho : ¬(1 ≤ s.lineCount ∧ s.lineCount < s.desc.recordSize)) : recordOpen s = false :=
  decide_eq_false fun h => ho (h hp)

theorem exec_parseRlAccumulate_of_closed (h : Running s) (hp : s.pstate = .readingLine)
    (ho : recordOpen s = false) (b : Byte) : exec (.parseRlAccumulate b) s = .fault .recordIndex := by
  change whenRunning s _ = _
  simp [whenRunning_of_running h, hp, ho]

theorem exec_consume_of_closed (h : Running s) (ho : recordOpen s = false) (hb : batchSize s ≠ 0) :
    exec .consume s = .fault .recordIndex := by
  change whenRunning s _ = _
  simp [whenRunning_of_running h, ho, hb]

/-- A CONSUME that finds a byte takes one at least (WF2, R123). -/
theorem batchSize_pos (h : s.cfg.wf = true) (ha : 1 ≤ available s) : 0 < batchSize s :=
  lt_min ha (Config.wf_bounds h).1

end soundness

/-! ### The statements -/

/-- Settles O49, by the cases of a step, and of a PARSE inside a CONSUME. -/
theorem everyStepKeepsTheInvariant : Obligations.EveryStepKeepsTheInvariant :=
  fun _ _ h e => h.step e

/-- Settles O6: what every PARSE leaves, the batch leaves, and the CONSUME around it. -/
theorem consumeLeavesProducerAndController : Obligations.ConsumeLeavesProducerAndController := by
  intro s t h
  obtain ⟨_, _, rfl⟩ := exec_consume_eq_next.mp h
  refine ⟨consumer_cfg s, consumer_variant s, consumer_ring s, consumer_prodCursor s,
    consumer_captureEnabled s, consumer_produced s, consumer_overrun s, consumer_terminal s,
    consumer_cmdQueue s, consumer_bytesForwarded s, fun hp => ?_⟩
  obtain ⟨hpending, hactive, hhdr, hcursor, hbuffer⟩ := consumer_sameFrame s hp
  exact ⟨hpending, hcursor, hhdr, hactive, hbuffer⟩

/-- Settles O54, by the cases of a step. -/
theorem historyOnlyGrows : Obligations.HistoryOnlyGrows := by
  intro s t h
  obtain ⟨records, hr⟩ := step_history_grows h
  exact ⟨records, hr.symm⟩

/-- Settles O21: the guard of the store finds no room in the record. -/
theorem byteOutsideTheRecordFaults : Obligations.ByteOutsideTheRecordFaults := by
  intro s h hp hout
  have ho : recordOpen s = false := recordOpen_eq_false hp hout
  exact ⟨exec_parseRlAccumulate_of_closed h hp ho,
    fun ha => exec_consume_of_closed h ho (batchSize_pos h.1 ha).ne'⟩

/-- Settles O29, from the role function and what each of the three operations does to the active index
and the slot. -/
theorem bufferRolesFollowTheSlot : Obligations.BufferRolesFollowTheSlot := by
  intro s
  refine ⟨role_eq_active_iff s, role_eq_pendingSend_iff s, role_eq_idle_iff s, fun row t h => ?_,
    fun i hi t h => ?_⟩
  · obtain ⟨_, _, rfl⟩ := (exec_boundaryHandoff_eq_next row).mp h
    exact role_boundaryHandoff s
  · simp only [List.mem_cons, List.not_mem_nil, or_false] at hi
    obtain rfl | rfl := hi
    · obtain ⟨_, hp, rfl⟩ := exec_pollDisconnect_eq_next.mp h
      exact role_of_slot_freed hp rfl rfl
    · obtain ⟨_, ⟨hp, _⟩, rfl⟩ := exec_pollComplete_eq_next.mp h
      exact role_of_slot_freed hp rfl rfl

/-- Settles O42: HOST's append is enabled whenever the block runs. -/
theorem hostByteJoinsTheQueue : Obligations.HostByteJoinsTheQueue :=
  fun _ c h => (hostByte_eq_next c).mpr ⟨h, rfl⟩

/-- Settles O48: outside a record, with no row placed, an empty ring and a free slot. -/
theorem coldStartIsSound : Obligations.ColdStartIsSound :=
  fun _ _ _ hc ring_wf line_wf ring_within line_within =>
    .coldStart hc ring_wf line_wf ring_within line_within

/-- Settles O52: every operation, every move and every step asks the guard of R294 first. -/
theorem noAgentStepsAfterTheHandoff : Obligations.NoAgentStepsAfterTheHandoff :=
  fun _ hc ht => ⟨exec_of_handedOff hc ht, runMove_of_handedOff hc ht, step_of_handedOff hc ht⟩

end Sys2Proof.Machine
end

section
/-! PROOFS. The memory family (20_memory.md): the canonical form of a storage space (R70), the byte order of
the frame header (R75), the ring as a queue of bytes (R71, R72, R86), and the pending frame (R84). First the
facts about the ring and the slot, then the statements. -/

namespace Sys2Proof

/-! ### Byte order (R75) -/

/-- A 16-bit value from its two bytes, low byte first (R75). -/
theorem lowByte_add_highByte (h : Half) : (lowByte h).toNat + 256 * (highByte h).toNat = h.toNat := by
  have hlow : (lowByte h).toNat = h.toNat % 256 := by simp [lowByte]
  have hhigh : (highByte h).toNat = h.toNat / 256 % 256 := by
    simp [highByte, Nat.shiftRight_eq_div_pow]
  have := h.isLt
  omega

/-- A number below 2^16 from the two bytes of its header field (R98, R99). -/
theorem lowByte_add_highByte_ofNat {n : Nat} (h : n ≤ 65535) :
    (lowByte (BitVec.ofNat 16 n)).toNat + 256 * (highByte (BitVec.ofNat 16 n)).toNat = n := by
  rw [lowByte_add_highByte, BitVec.toNat_ofNat]
  exact Nat.mod_eq_of_lt (Nat.lt_succ_of_le h)

end Sys2Proof

namespace Sys2Proof.Machine

/-! ### The canonical form of a storage space (R70) -/

theorem Memory.wfFrom_cons_iff {lo k : Nat} {v : Byte} {rest : Memory} :
    Memory.wfFrom lo ((k, v) :: rest) = true ↔ lo ≤ k ∧ v ≠ 0 ∧ Memory.wfFrom (k + 1) rest = true := by
  simp only [Memory.wfFrom, Bool.and_eq_true, decide_eq_true_eq, and_assoc]
  exact Iff.rfl

@[simp] theorem Memory.read_cons_self (k : Nat) (v : Byte) (rest : Memory) :
    Memory.read ((k, v) :: rest) k = v := if_pos rfl

theorem Memory.read_cons_of_ne {k a : Nat} (h : k ≠ a) (v : Byte) (rest : Memory) :
    Memory.read ((k, v) :: rest) a = Memory.read rest a := if_neg h

/-- A listed byte is not what a space that starts later reads there. -/
theorem Memory.exists_read_ne {lo k : Nat} {v : Byte} {rest m : Memory}
    (h : Memory.wfFrom lo ((k, v) :: rest) = true) (hm : Memory.wfFrom (k + 1) m = true) :
    ∃ a, Memory.read ((k, v) :: rest) a ≠ Memory.read m a := by
  obtain ⟨_, hv, _⟩ := Memory.wfFrom_cons_iff.mp h
  exact ⟨k, by rwa [Memory.read_cons_self, Memory.read_below m hm (Nat.lt_succ_self k)]⟩

/-- The first cells of two canonical spaces with equal reads are equal, and so are the reads of the rest. -/
theorem Memory.cons_reads_eq {lo lo' k k' : Nat} {v v' : Byte} {rest rest' : Memory}
    (h : Memory.wfFrom lo ((k, v) :: rest) = true) (h' : Memory.wfFrom lo' ((k', v') :: rest') = true)
    (hr : ∀ a, Memory.read ((k, v) :: rest) a = Memory.read ((k', v') :: rest') a) :
    k = k' ∧ v = v' ∧ ∀ a, Memory.read rest a = Memory.read rest' a := by
  obtain ⟨_, hv, hrest⟩ := Memory.wfFrom_cons_iff.mp h
  obtain ⟨_, hv', hrest'⟩ := Memory.wfFrom_cons_iff.mp h'
  obtain hlt | rfl | hgt := Nat.lt_trichotomy k k'
  · obtain ⟨a, ha⟩ := Memory.exists_read_ne h (Memory.wfFrom_cons_iff.mpr ⟨hlt, hv', hrest'⟩)
    exact absurd (hr a) ha
  · refine ⟨rfl, by simpa using hr k, fun a => ?_⟩
    by_cases ha : k = a
    · rw [Memory.read_below rest hrest (by omega), Memory.read_below rest' hrest' (by omega)]
    · simpa [Memory.read_cons_of_ne ha] using hr a
  · obtain ⟨a, ha⟩ := Memory.exists_read_ne h' (Memory.wfFrom_cons_iff.mpr ⟨hgt, hv, hrest⟩)
    exact absurd (hr a).symm ha

/-- Equal reads are equal data, by the cells of both spaces. -/
theorem Memory.eq_of_read_eq {lo : Nat} {m m' : Memory} (h : Memory.wfFrom lo m = true)
    (h' : Memory.wfFrom lo m' = true) (hr : ∀ a, Memory.read m a = Memory.read m' a) : m = m' := by
  induction m generalizing lo m' with
  | nil =>
    cases m' with
    | nil => rfl
    | cons cell' rest' =>
      obtain ⟨a, ha⟩ := Memory.exists_read_ne (m := []) h' rfl
      exact absurd (hr a).symm ha
  | cons cell rest ih =>
    cases m' with
    | nil =>
      obtain ⟨a, ha⟩ := Memory.exists_read_ne (m := []) h rfl
      exact absurd (hr a) ha
    | cons cell' rest' =>
      obtain ⟨k, v⟩ := cell
      obtain ⟨k', v'⟩ := cell'
      obtain ⟨rfl, rfl, hrest⟩ := Memory.cons_reads_eq h h' hr
      obtain ⟨_, _, hw⟩ := Memory.wfFrom_cons_iff.mp h
      obtain ⟨_, _, hw'⟩ := Memory.wfFrom_cons_iff.mp h'
      rw [ih hw hw' hrest]

section

variable {s t : State}

/-! ### The ring as a queue (R71, R72, R122) -/

@[simp] theorem length_unread (s : State) : (unread s).length = available s := length_ringBytes s _

/-- Taking a move leaves the unread bytes. -/
@[simp] theorem unread_takeMove (s : State) : unread (takeMove s) = unread s :=
  unread_congr (by simp) (by simp) (by simp) (by simp)

/-- P stands `available()` places after C (R122). -/
theorem RingInv.prodCursor_eq (h : RingInv s) :
    s.prodCursor = (s.consCursor + available s) % s.cfg.ringN := by
  rw [available_eq h, h.cons, ← Nat.add_mod, Nat.add_sub_of_le h.order, h.prod]

/-- A read of the ring after PRODUCE: the byte at P, and every other place as before (R72). -/
theorem ringRead_producer (hr : s.ring.wf = true) (b : Byte) (i : Nat) :
    ringRead (producer b s) i =
      if i % s.cfg.ringN = s.prodCursor % s.cfg.ringN then b else ringRead s i := by
  simp [ringRead, ringIndex, Memory.read_write _ _ _ _ hr]

/-- PRODUCE writes behind the unread bytes and leaves them (R71, R72). -/
theorem ringBytes_producer (h : RingInv s) (hr : s.ring.wf = true) (b : Byte) :
    ringBytes (producer b s) (available s + 1) = unread s ++ [b] := by
  have hread : ∀ i, ringRead (producer b s) ((producer b s).consCursor + i) =
      if s.consCursor + i ≡ s.consCursor + available s [MOD s.cfg.ringN] then b
      else ringRead s (s.consCursor + i) := by
    intro i
    rw [ringRead_producer hr, h.prodCursor_eq, Nat.mod_mod]
    rfl
  have hold : ∀ i ∈ List.range (available s),
      ringRead (producer b s) ((producer b s).consCursor + i) = ringRead s (s.consCursor + i) := by
    intro i hi
    have hlt : i < available s := List.mem_range.mp hi
    rw [hread, if_neg]
    intro hmod
    have : i = available s :=
      hmod.add_left_cancel'.eq_of_lt_of_lt (hlt.trans (available_lt s)) (available_lt s)
    omega
  have hnew : ringRead (producer b s) ((producer b s).consCursor + available s) = b := by
    rw [hread, if_pos (Nat.ModEq.refl _)]
  rw [ringBytes, List.range_succ, List.map_append, List.map_congr_left hold, List.map_singleton, hnew]
  rfl

/-- While there is room, PRODUCE appends its byte to the unread bytes (R121). -/
theorem unread_producer (h : RingInv s) (hr : s.ring.wf = true) (b : Byte)
    (room : s.produced - s.consumed + 1 < s.cfg.ringN) : unread (producer b s) = unread s ++ [b] := by
  have horder := h.order
  have hone : available (producer b s) = available s + 1 := by
    rw [available_eq (h.producer b), available_eq h]
    simp only [producer_produced, producer_consumed, producer_cfg]
    rw [Nat.mod_eq_of_lt, Nat.mod_eq_of_lt] <;> omega
  rw [unread, hone]
  exact ringBytes_producer h hr b

/-- The write that takes the last place leaves P at C and sets the ghost (R86, R127). -/
theorem producer_of_full (h : RingInv s) (b : Byte) (full : s.produced - s.consumed + 1 = s.cfg.ringN) :
    (producer b s).overrun = true ∧ available (producer b s) = 0 ∧
      (producer b s).prodCursor = (producer b s).consCursor := by
  have hcount : s.produced + 1 = s.consumed + s.cfg.ringN := by have := h.order; omega
  refine ⟨by simp [hcount], ?_, ?_⟩
  · rw [available_eq (h.producer b)]
    simp [hcount]
  · rw [(h.producer b).prod, (h.producer b).cons]
    simp [hcount]

/-- A CONSUME leaves its batch fewer bytes to read (R123). -/
theorem available_consumer (h : RingInv s) : available (consumer s) = available s - batchSize s := by
  have hle : batchSize s ≤ (s.produced - s.consumed) % s.cfg.ringN :=
    (Nat.min_le_left _ _).trans (available_eq h).le
  have hlt := available_lt s
  have hdiv := Nat.div_add_mod (s.produced - s.consumed) s.cfg.ringN
  rw [available_eq h.consumer, available_eq h]
  rw [available_eq h] at hlt
  simp only [consumer_produced, consumer_consumed, consumer_cfg]
  have hsplit : s.produced - (s.consumed + batchSize s) =
      (s.produced - s.consumed) % s.cfg.ringN - batchSize s +
        s.cfg.ringN * ((s.produced - s.consumed) / s.cfg.ringN) := by omega
  rw [hsplit, Nat.add_mul_mod_self_left, Nat.mod_eq_of_lt (by omega)]

/-- After a CONSUME the ring reads from the end of the batch on (R123). -/
theorem ringRead_consumer (s : State) (i : Nat) :
    ringRead (consumer s) ((consumer s).consCursor + i) = ringRead s (s.consCursor + (batchSize s + i)) := by
  simp [ringRead, ringIndex, Nat.add_assoc]

/-- CONSUME removes its batch from the front of the unread bytes (R123, R124). -/
theorem unread_consumer (h : RingInv s) : unread (consumer s) = (unread s).drop (batchSize s) := by
  apply List.ext_getElem
  · simp [available_consumer h]
  · intro i _ _
    simp only [unread, ringBytes, List.getElem_drop, List.getElem_map, List.getElem_range,
      ringRead_consumer]

/-- The batch is `BATCH_MAX` bytes, or all there are (R123). -/
theorem unread_drop_batchSize (s : State) :
    (unread s).drop (batchSize s) = (unread s).drop s.cfg.batchMax := by
  rcases Nat.le_total (available s) s.cfg.batchMax with hle | hle
  · rw [batchSize, min_eq_left hle, List.drop_of_length_le (by simp), List.drop_of_length_le (by simpa)]
  · rw [batchSize, min_eq_right hle]

/-! ### What a step does to the ring (R61) -/

/-- No command writes the ring: a mode switch resets the cursors alone (R225). -/
theorem exec_command_ring {c : Command} (h : exec c.instr s = .next t) : t.ring = s.ring := by
  obtain ⟨k, rfl, rfl⟩ | ⟨k, rfl, rfl⟩ | ⟨k, rfl, rfl⟩ | ⟨k, rfl, rfl⟩ | ⟨k, rfl, rfl⟩ | ⟨b, rfl, rfl⟩ :=
    exec_command_cases h <;> simp

/-- Only PRODUCE writes the ring (R72). -/
theorem step_ring (h : step s = .next t) (hp : ∀ b, nextMove s ≠ .produce b) : t.ring = s.ring := by
  cases step_cases h with
  | produce b hb m capture e => exact absurd m (hp b)
  | cmd c rest hb m q e => simpa using exec_command_ring e
  | boot hb e | consume hb m e | idle a hb m p e | disconnect a hb m p e | write a hb m p k e
  | host c hb m e => subst e; simp

theorem booting_of_modeSwitchNext (h : modeSwitchNext s = none) : s.booting = false := by
  cases hb : s.booting with
  | true => simp [modeSwitchNext_of_booting hb] at h
  | false => rfl

/-- After the boot step, a step whose move is PRODUCE is PRODUCE. -/
theorem step_of_produce {b : Byte} (h : step s = .next t) (hb : s.booting = false)
    (m : nextMove s = .produce b) : t = producer b (takeMove s) := by
  rw [step_of_booted hb, m] at h
  exact ((exec_produce_eq_next b).mp h).2.2.symm

/-- After the boot step, a step whose move is CONSUME is CONSUME. -/
theorem step_of_consume (h : step s = .next t) (hb : s.booting = false) (m : nextMove s = .consume) :
    t = consumer (takeMove s) := by
  rw [step_of_booted hb, m] at h
  exact (exec_consume_eq_next.mp h).2.2.symm

/-- A step that is no mode switch and neither of the ring's moves leaves the unread bytes. -/
theorem step_unread (h : step s = .next t) (hn : modeSwitchNext s = none)
    (hp : ∀ b, nextMove s ≠ .produce b) (hc : nextMove s ≠ .consume) : unread t = unread s := by
  obtain ⟨v, hv, _⟩ | ⟨_, hmoved⟩ := step_switch_or_moved h
  · simp [hn] at hv
  · exact unread_congr (step_cfg h) (step_ring h hp)
      (hmoved.prod.resolve_right fun ⟨b, m, _⟩ => hp b m)
      (hmoved.cons.resolve_right fun ⟨m, _⟩ => hc m)

/-! ### The pending frame along a step (R84, R183) -/

/-- The pending frame of `s` is that of `t`, sent as far or further (R206, R207). -/
structure FrameKept (s t : State) : Prop where
  active : t.active = s.active
  buffer : buffer t t.active.other = buffer s s.active.other
  hdr : t.hdr = s.hdr
  desc : t.desc = s.desc
  cursor : s.sendCursor ≤ t.sendCursor

/-- The fields that the pending frame is read from. -/
def frameView (s : State) : BufferId × Memory × Memory × Vector Byte 8 × Descriptor × Nat :=
  (s.active, s.bufPing, s.bufPong, s.hdr, s.desc, s.sendCursor)

theorem FrameKept.of_view (h : frameView t = frameView s) : FrameKept s t := by
  simp only [frameView, Prod.mk.injEq] at h
  obtain ⟨hactive, hping, hpong, hhdr, hdesc, hcursor⟩ := h
  exact ⟨hactive, by rw [hactive]; cases s.active <;> simp [Machine.buffer, BufferId.other, hping, hpong],
    hhdr, hdesc, hcursor.ge⟩

theorem FrameKept.trans {u : State} (h : FrameKept s u) (h' : FrameKept u t) : FrameKept s t :=
  ⟨h'.active.trans h.active, h'.buffer.trans h.buffer, h'.hdr.trans h.hdr, h'.desc.trans h.desc,
    h.cursor.trans h'.cursor⟩

theorem takeMove_frameKept (s : State) : FrameKept s (takeMove s) := .of_view (by simp [frameView])

theorem consumer_frameKept (hp : s.pending = true) : FrameKept s (consumer s) := by
  obtain ⟨_, hactive, hhdr, hcursor, hbuffer⟩ := consumer_sameFrame s hp
  exact ⟨hactive, by rw [hactive, hbuffer], hhdr, consumer_desc s, hcursor.ge⟩

/-- A POLL that leaves the slot occupied has moved the cursor alone, forward (R204). -/
theorem sendPoll_frameKept {room k : Nat} (hp : (sendPoll room k s).pending = true) :
    FrameKept s (sendPoll room k s) := by
  unfold sendPoll at hp ⊢
  dsimp only at hp ⊢
  split_ifs at hp ⊢
  · simp at hp
  · exact ⟨rfl, rfl, rfl, rfl, Nat.le_add_right _ _⟩
  · simp at hp
  · exact .of_view rfl

/-- A command that leaves the slot occupied is no mode switch, and touches nothing of the frame (R225). -/
theorem exec_command_frameKept {c : Command} (h : exec c.instr s = .next t) (hp : t.pending = true) :
    FrameKept s t := by
  obtain ⟨k, rfl, rfl⟩ | ⟨k, rfl, rfl⟩ | ⟨k, rfl, rfl⟩ | ⟨k, rfl, rfl⟩ | ⟨k, rfl, rfl⟩ | ⟨b, rfl, rfl⟩ :=
    exec_command_cases h
  · simp at hp
  · simp at hp
  all_goals exact .of_view (by simp [frameView])

/-- A step that finds the slot occupied and leaves it so keeps the frame in it (R84, R183). -/
theorem step_frameKept (h : step s = .next t) (hs : s.pending = true) (ht : t.pending = true) :
    FrameKept s t := by
  cases step_cases h with
  | boot hb e => simp [e] at ht
  | disconnect a hb m p e => simp [e] at ht
  | consume hb m e =>
    subst e
    exact (takeMove_frameKept s).trans (consumer_frameKept (by simpa using hs))
  | write a hb m p k e =>
    subst e
    exact (takeMove_frameKept s).trans (sendPoll_frameKept ht)
  | cmd c rest hb m q e =>
    have hq : FrameKept (takeMove s) (setQueue rest (takeMove s)) := .of_view rfl
    exact (takeMove_frameKept s).trans (hq.trans (exec_command_frameKept e ht))
  | produce b hb m capture e => exact e ▸ (takeMove_frameKept s).trans (.of_view rfl)
  | idle a hb m p e => exact e ▸ takeMove_frameKept s
  | host c hb m e => exact e ▸ (takeMove_frameKept s).trans (.of_view rfl)

end

/-! ### The statements -/

/-- Settles O57: a mode switch leaves equal cursors, PRODUCE and CONSUME act on the queue as they do on its
cursors and the ring, and every other step moves neither. -/
theorem everyStepTreatsTheRingAsAQueue : Obligations.EveryStepTreatsTheRingAsAQueue := by
  intro s t hInv h
  have hring : RingInv (takeMove s) := hInv.takeMove.ring
  refine ⟨fun v hv => ?_, fun hn => ⟨fun b m _ => ?_, fun m => ?_, fun hp hc => step_unread h hn hp hc⟩⟩
  · obtain ⟨_, _, hsw⟩ | ⟨hn, _⟩ := step_switch_or_moved h
    · exact unread_of_eq_cursors (hsw.prod.trans hsw.cons.symm)
    · simp [hn] at hv
  · obtain rfl := step_of_produce h (booting_of_modeSwitchNext hn) m
    refine ⟨fun room => ?_, fun full => ?_⟩
    · rw [unread_producer hring hInv.takeMove.memory.ring_wf b (by simpa using room), unread_takeMove]
    · obtain ⟨hover, _, hcursors⟩ := producer_of_full hring b (by simpa using full)
      exact ⟨unread_of_eq_cursors hcursors, hover⟩
  · obtain rfl := step_of_consume h (booting_of_modeSwitchNext hn) m
    rw [unread_consumer hring, unread_drop_batchSize, unread_takeMove, takeMove_cfg]

/-- Settles O7: a sound state that runs selects both of the ring's moves, and they act on the unread bytes
as on a queue. -/
theorem ringIsAFifoQueueWhileThereIsRoom : Obligations.RingIsAFifoQueueWhileThereIsRoom := by
  intro s h hterm
  have hrun : Running s := ⟨h.cfg, hterm⟩
  refine ⟨(length_unread s).trans (available_eq h.ring), fun b hover room => ?_, ?_⟩
  · refine ⟨producer b s, (exec_produce_eq_next b).mpr ⟨hrun, h.ring.capture, rfl⟩, ?_,
      unread_producer h.ring h.memory.ring_wf b room⟩
    have hlt : s.produced + 1 - s.consumed < s.cfg.ringN := by omega
    simp [hover, hlt]
  · rw [length_unread]
    exact ⟨consumer s, exec_consume_eq_next.mpr ⟨hrun, .inr h.parser.recordOpen, rfl⟩,
      unread_consumer h.ring, rfl⟩

/-- Settles O8: the write that takes the last place puts P at C. -/
theorem lappingWriteIsAnUndetectedOverrun : Obligations.LappingWriteIsAnUndetectedOverrun :=
  fun s b h hterm full => ⟨producer b s,
    (exec_produce_eq_next b).mpr ⟨⟨h.cfg, hterm⟩, h.ring.capture, rfl⟩, producer_of_full h.ring b full⟩

/-- Settles O27, by the cases of a step. -/
theorem pendingFrameIsNeverWritten : Obligations.PendingFrameIsNeverWritten := by
  intro s t h hs ht
  obtain ⟨hactive, hbuffer, hhdr, hdesc, hcursor⟩ := step_frameKept h hs ht
  exact ⟨hactive, hbuffer, hhdr, hdesc, hcursor⟩

/-- Settles O56, by the cells of both spaces. -/
theorem canonicalMemoriesWithEqualReadsAreEqual : Obligations.CanonicalMemoriesWithEqualReadsAreEqual :=
  fun _ _ h h' hr => Memory.eq_of_read_eq h h' hr

/-- Settles O35: each field is a 16-bit value with its low byte first, and the geometry fits one (WF4). -/
theorem headerFieldsAreLittleEndian : Obligations.HeaderFieldsAreLittleEndian := by
  intro c v f h
  obtain ⟨_, _, _, hd, _⟩ := (Config.wf_iff c).mp h
  obtain ⟨_, _, _, _, hwidth, hheight⟩ := Descriptor.wf_bounds (hd v)
  exact ⟨rfl, rfl, lowByte_add_highByte f, lowByte_add_highByte_ofNat hwidth,
    lowByte_add_highByte_ofNat hheight⟩

end Sys2Proof.Machine
end

section
/-! PROOFS. The encoding family (30_encoding.md): the host command byte (R102 to R104), the table-driven CRC
(R95, R96), the packet (R100), and the line record (R90, R94, R108) as PARSE reads it back, whole or with a
row byte out of range. First the facts about bytes, CRC rounds and stores, then how the head of a record and
a whole record run through PARSE, then the statements. -/

namespace Sys2Proof

/-! ### The command byte (R102 to R104) -/

/-- Folding the case clears bit 5 alone, and the case of the letter puts it back (R103). -/
theorem letterByte_foldCase (c : Byte) : letterByte (foldCase c) (letterCase c) = c := by
  apply BitVec.eq_of_getLsbD_eq
  intro i hi
  have hbit := (BitVec.getLsbD_eq_getElem (x := c) (i := 5) (by decide)).symm
  cases hc : c.getLsbD 5 with
  | false =>
    rw [hc] at hbit
    interval_cases i <;> simp [letterCase, letterByte, foldCase, hbit]
  | true =>
    rw [hc] at hbit
    interval_cases i <;> simp [letterCase, letterByte, foldCase, hbit]

/-- A decoded command keeps every bit of its byte (R103). -/
theorem byte_decodeCommand (c : Byte) : (decodeCommand c).byte = c := by
  have hletter : ∀ upper, foldCase c = upper → letterByte upper (letterCase c) = c :=
    fun _ h => h ▸ letterByte_foldCase c
  unfold decodeCommand
  split_ifs with hN hO hS hR hB
  · exact hletter _ hN
  · exact hletter _ hO
  · exact hletter _ hS
  · exact hletter _ hR
  · exact hletter _ hB
  · rfl

/-- A byte that is no command's is ignored (R104). -/
theorem decodeCommand_of_not_command {c : Byte} (h : isCommandByte c = false) :
    decodeCommand c = .ignore c := by
  simp only [isCommandByte, Bool.or_eq_false_iff, beq_eq_false_iff_ne] at h
  obtain ⟨⟨⟨⟨hN, hO⟩, hS⟩, hR⟩, hB⟩ := h
  rw [decodeCommand, if_neg hN, if_neg hO, if_neg hS, if_neg hR, if_neg hB]

/-- A command is read back from its byte (R102, R103). -/
theorem decodeCommand_byte {d : Descriptor} {c : Command} (h : c.instr.wf d = true) :
    decodeCommand c.byte = c := by
  cases c with
  | ignore b => exact decodeCommand_of_not_command (c := b) (by simpa [Command.instr, Instr.wf] using h)
  | modeNarrow k | modeWide k | status k | clearStats k | fwUpdate k => cases k <;> rfl

theorem encode_instr (c : Command) : encode c.instr = some [c.byte] := by cases c <;> rfl

/-- Only the host commands have an encoding, the command byte (R110). -/
theorem encode_eq_some {i : Instr} {bytes : List Byte} (h : encode i = some bytes) :
    ∃ c : Command, i = c.instr ∧ bytes = [c.byte] := by
  cases i with
  | modeNarrow k => exact ⟨.modeNarrow k, rfl, (Option.some.inj h).symm⟩
  | modeWide k => exact ⟨.modeWide k, rfl, (Option.some.inj h).symm⟩
  | status k => exact ⟨.status k, rfl, (Option.some.inj h).symm⟩
  | clearStats k => exact ⟨.clearStats k, rfl, (Option.some.inj h).symm⟩
  | fwUpdate k => exact ⟨.fwUpdate k, rfl, (Option.some.inj h).symm⟩
  | ignore b => exact ⟨.ignore b, rfl, (Option.some.inj h).symm⟩
  | _ => cases h

/-! ### CRC-16 (R95, R96) -/

/-- A round is linear: the polynomial comes in for each summand whose bit 15 leaves. -/
theorem crcRound_xor (x y : Half) : crcRound (x ^^^ y) = crcRound x ^^^ crcRound y := by
  have hcancel : ∀ a b p : Half, a ^^^ b = a ^^^ p ^^^ (b ^^^ p) := fun a b p => by
    rw [BitVec.xor_comm b p, BitVec.xor_assoc, ← BitVec.xor_assoc p p b, BitVec.xor_self, BitVec.zero_xor]
  unfold crcRound
  rw [BitVec.msb_xor, BitVec.shiftLeft_xor_distrib]
  rcases x.msb with _ | _ <;> rcases y.msb with _ | _
  · rfl
  · exact BitVec.xor_assoc (x <<< 1) (y <<< 1) 0x1021
  · show (x <<< 1 ^^^ y <<< 1) ^^^ 0x1021 = (x <<< 1 ^^^ 0x1021) ^^^ y <<< 1
    ac_rfl
  · exact hcancel (x <<< 1) (y <<< 1) 0x1021

theorem crcRounds_xor (n : Nat) (x y : Half) :
    crcRounds n (x ^^^ y) = crcRounds n x ^^^ crcRounds n y := by
  induction n generalizing x y with
  | zero => rfl
  | succ n ih => simp only [crcRounds, crcRound_xor, ih]

/-- Where no 1 bit leaves at bit 15, the rounds are a shift. -/
theorem crcRounds_eq_shiftLeft (n : Nat) (x : Half) (h : x.toNat * 2 ^ n < 2 ^ 16) :
    crcRounds n x = x <<< n := by
  induction n generalizing x with
  | zero => simp [crcRounds]
  | succ n ih =>
    rw [pow_succ'] at h
    have hx : 2 * x.toNat < 2 ^ 16 := by
      have := Nat.le_mul_of_pos_right (2 * x.toNat) (Nat.two_pow_pos n)
      linarith
    have hmsb : x.msb = false := by
      rw [BitVec.msb_eq_false_iff_two_mul_lt]; omega
    have hround : crcRound x = x <<< 1 := by simp [crcRound, hmsb]
    have hdouble : (x <<< 1).toNat = 2 * x.toNat := by
      rw [BitVec.toNat_shiftLeft, Nat.shiftLeft_eq, Nat.mod_eq_of_lt] <;> omega
    rw [crcRounds, hround, ih _ (by rw [hdouble]; linarith), ← BitVec.shiftLeft_add, Nat.add_comm]

theorem halfOf_xor (a b c d : Byte) : halfOf a b ^^^ halfOf c d = halfOf (a ^^^ c) (b ^^^ d) :=
  BitVec.xor_append

theorem toNat_halfOf (hi lo : Byte) : (halfOf hi lo).toNat = 256 * hi.toNat + lo.toNat := by
  have happend : (halfOf hi lo).toNat = hi.toNat <<< 8 ||| lo.toNat := BitVec.toNat_append hi lo
  rw [happend, ← Nat.shiftLeft_add_eq_or_of_lt lo.isLt, Nat.shiftLeft_eq, Nat.mul_comm]

/-- A byte alone goes through the eight rounds without the polynomial. -/
theorem crcRounds_lowByte (crc : Half) : crcRounds 8 (halfOf 0 (lowByte crc)) = crc <<< 8 := by
  have hlow : (halfOf 0 (lowByte crc)).toNat = crc.toNat % 256 := by
    simp [toNat_halfOf, lowByte]
  rw [crcRounds_eq_shiftLeft 8 _ (by rw [hlow]; omega)]
  apply BitVec.eq_of_toNat_eq
  rw [BitVec.toNat_shiftLeft, BitVec.toNat_shiftLeft, hlow, Nat.shiftLeft_eq, Nat.shiftLeft_eq]
  omega

/-- The table update of R95 is eight rounds of R96 on the byte XORed into the top: the table covers the
high byte, and the low byte is only shifted. -/
theorem crcUpdate_eq_crcRounds (crc : Half) (b : Byte) :
    crcUpdate crc b = crcRounds 8 (crc ^^^ halfOf b 0) := by
  have hsplit : crc ^^^ halfOf b 0 = halfOf 0 (lowByte crc) ^^^ halfOf (highByte crc ^^^ b) 0 := by
    conv_lhs => rw [← halfOf_highByte_lowByte crc, halfOf_xor]
    simp [halfOf_xor]
  rw [hsplit, crcRounds_xor, crcRounds_lowByte]
  rfl

end Sys2Proof

namespace Sys2Proof.Machine

/-! ### The packet (R100) -/

theorem streamByte_header (s : State) {k : Nat} (h : k < 8) : streamByte s k = s.hdr[k] := dif_pos h

theorem streamByte_pixel (s : State) (o : Nat) :
    streamByte s (8 + o) = Memory.read (buffer s s.active.other) o := by
  simp [streamByte, bufRead]

/-- The first eight bytes of the stream are the header (R100). -/
theorem map_streamByte_header (s : State) : (List.range 8).map (streamByte s) = s.hdr.toList := by
  apply List.ext_getElem
  · simp
  · intro k hk _
    have hk : k < 8 := by simpa using hk
    simp [streamByte_header s hk]

/-! ### The storage spaces (R70) -/

theorem Memory.write_of_read_eq {m : Memory} (hm : m.wf = true) {a : Nat} {b : Byte}
    (h : Memory.read m a = b) : Memory.write m a b = m := by
  refine Memory.eq_of_read_eq (Memory.wf_write m a b hm) hm fun x => ?_
  rw [Memory.read_write m a b x hm]
  split_ifs with hx
  · rw [hx, h]
  · rfl

theorem Memory.write_write_same {m : Memory} (hm : m.wf = true) (a : Nat) (b c : Byte) :
    Memory.write (Memory.write m a b) a c = Memory.write m a c := by
  have hb := Memory.wf_write m a b hm
  refine Memory.eq_of_read_eq (Memory.wf_write _ a c hb) (Memory.wf_write m a c hm) fun x => ?_
  rw [Memory.read_write _ a c x hb, Memory.read_write m a b x hm, Memory.read_write m a c x hm]
  split_ifs <;> rfl

/-! ### The head of a record: sync and row byte (R142 to R147) -/

/-- The sync byte and the row byte are in the line buffer, and the row check is due (R142, R143). -/
def headRead (rowB : Byte) (s : State) : State := { s with
  lineBuf := Memory.writeBytes s.lineBuf 0 [s.cfg.sync, rowB]
  lineCount := 2
  pstate := .readingLine }

/-- Outside a record, a sync byte and one more byte are stored and the row checked. -/
theorem parseBytes_head {s : State} (rowB : Byte) (h : s.pstate ≠ .readingLine) :
    parseBytes [s.cfg.sync, rowB] s = rowCheck (headRead rowB s) := by
  rw [parseBytes_cons, parse_sync h, parseBytes_cons, parse_row rowB rfl rfl]
  rfl

section head

variable {s : State} (hm : s.lineBuf.wf = true) (rowB : Byte)
include hm

theorem headRead_wf : (headRead rowB s).lineBuf.wf = true := Memory.wf_writeBytes _ _ _ hm

theorem lineByte_headRead (a : Nat) : lineByte (headRead rowB s) a =
    if a = 0 then s.cfg.sync else if a = 1 then rowB else Memory.read s.lineBuf a := by
  refine (Memory.read_writeBytes_zero _ hm a).trans ?_
  match a with
  | 0 | 1 | a + 2 => simp

theorem rowByte_headRead : rowByte (headRead rowB s) = rowB := by
  simp [rowByte, lineByte_headRead hm]

theorem rowInRange_headRead :
    rowInRange (headRead rowB s) = decide ((s.desc.row rowB).toNat < s.desc.totalLines) := by
  rw [rowInRange, rowByte_headRead hm]
  rfl

/-- R144 on the head of a record. -/
theorem rowCheck_headRead_accepted (range : (s.desc.row rowB).toNat < s.desc.totalLines) :
    rowCheck (headRead rowB s) = { headRead rowB s with rowAddr := s.desc.row rowB } := by
  rw [rowCheck, if_pos (by simpa [rowInRange_headRead hm] using range), rowAccepted, rowByte_headRead hm]
  rfl

section outOfRange

variable (range : s.desc.totalLines ≤ (s.desc.row rowB).toNat)
include range

theorem not_rowInRange_headRead : ¬ rowInRange (headRead rowB s) = true := by
  simpa [rowInRange_headRead hm] using range

/-- R145 on the head of a record. -/
theorem rowCheck_headRead_locked (lock : s.frameLocked = true) :
    rowCheck (headRead rowB s) = { headRead rowB s with
      lineCount := 0
      gapRemaining := s.cfg.maxGap + s.desc.recordSize
      pstate := .scanningGap
      history := s.history ++ [.rowRangeLocked (s.desc.row rowB)] } := by
  rw [rowCheck, if_neg (not_rowInRange_headRead hm rowB range), if_pos (by exact lock), rowLocked,
    rowByte_headRead hm]
  rfl

/-- R146 on the head of a record: the sync byte that starts the record anew is there already. -/
theorem rowCheck_headRead_falseSync (lock : s.frameLocked = false) (sync : rowB = s.cfg.sync) :
    rowCheck (headRead rowB s) = { headRead rowB s with
      lineCount := 1
      history := s.history ++ [.falseSync rowB] } := by
  have hstored : Memory.write (headRead rowB s).lineBuf 0 rowB = (headRead rowB s).lineBuf :=
    Memory.write_of_read_eq (headRead_wf hm rowB) (sync ▸ lineByte_headRead hm rowB 0)
  rw [rowCheck, if_neg (not_rowInRange_headRead hm rowB range), if_neg (by simp [headRead, lock]),
    rowByte_headRead hm, if_pos (by exact sync), rowFalseSync, rowByte_headRead hm, lineWrite, hstored]
  rfl

/-- R147 on the head of a record. -/
theorem rowCheck_headRead_fallback (lock : s.frameLocked = false) (sync : rowB ≠ s.cfg.sync) :
    rowCheck (headRead rowB s) = { headRead rowB s with
      lineCount := 0
      pstate := .scanningForSync
      history := s.history ++ [.falseSync rowB] } := by
  rw [rowCheck, if_neg (not_rowInRange_headRead hm rowB range), if_neg (by simp [headRead, lock]),
    rowByte_headRead hm, if_neg (by exact sync), rowFallback, rowByte_headRead hm]
  rfl

end outOfRange

end head

/-- What a byte overwrites in the line buffer is not looked at (R143). -/
theorem parse_lineWrite {s : State} {a : Nat} (hm : s.lineBuf.wf = true) (hp : s.pstate = .readingLine)
    (ha : s.lineCount = a) (x b : Byte) : parse b (lineWrite a x s) = parse b s := by
  have hstore : accumulate b (lineWrite a x s) = accumulate b s := by
    simp [accumulate, lineWrite, ha, Memory.write_write_same hm]
  simp only [parse, hp, lineWrite_pstate, parseRl, hstore]

/-- An unlocked false sync byte leaves its event, and a byte of the line buffer that the byte after it
overwrites (R146). -/
theorem parseBytes_falseSync {s : State} (hm : s.lineBuf.wf = true) (hp : s.pstate ≠ .readingLine)
    (lock : s.frameLocked = false) (range : s.desc.totalLines ≤ (s.desc.row s.cfg.sync).toNat) :
    parseBytes [s.cfg.sync, s.cfg.sync] s =
      lineWrite 1 s.cfg.sync (openRecord s.cfg.sync (emit (.falseSync s.cfg.sync) s)) := by
  rw [parseBytes_head _ hp, rowCheck_headRead_falseSync hm _ range lock rfl]
  rfl

/-- So the record after an unlocked false sync byte is parsed as if that byte had only been an event (S7). -/
theorem parseBytes_after_falseSync {s : State} (hm : s.lineBuf.wf = true) (hp : s.pstate ≠ .readingLine)
    (lock : s.frameLocked = false) (range : s.desc.totalLines ≤ (s.desc.row s.cfg.sync).toNat)
    (rowB : Byte) (rest : List Byte) :
    parseBytes (s.cfg.sync :: s.cfg.sync :: rowB :: rest) s =
      parseBytes (s.cfg.sync :: rowB :: rest) (emit (.falseSync s.cfg.sync) s) := by
  have hsync : parse s.cfg.sync (emit (.falseSync s.cfg.sync) s) =
      openRecord s.cfg.sync (emit (.falseSync s.cfg.sync) s) :=
    parse_sync (s := emit (.falseSync s.cfg.sync) s) hp
  have hopen : (openRecord s.cfg.sync (emit (.falseSync s.cfg.sync) s)).lineBuf.wf = true :=
    Memory.wf_write _ _ _ hm
  calc parseBytes (s.cfg.sync :: s.cfg.sync :: rowB :: rest) s
      = parseBytes (rowB :: rest) (parseBytes [s.cfg.sync, s.cfg.sync] s) :=
        parseBytes_append [s.cfg.sync, s.cfg.sync] (rowB :: rest) s
    _ = parseBytes rest (parse rowB (openRecord s.cfg.sync (emit (.falseSync s.cfg.sync) s))) := by
        rw [parseBytes_falseSync hm hp lock range, parseBytes_cons, parse_lineWrite (a := 1) hopen rfl rfl]
    _ = parseBytes (s.cfg.sync :: rowB :: rest) (emit (.falseSync s.cfg.sync) s) := by
        rw [parseBytes_cons, hsync, parseBytes_cons]

/-! ### A CONSUME of two bytes (R123) -/

theorem ringBytes_two (s : State) :
    ringBytes s 2 = [ringRead s s.consCursor, ringRead s (s.consCursor + 1)] := rfl

/-- A batch of a sync byte and one more, from a state outside a record, is the head of one (R123, R124). -/
theorem exec_consume_head {s : State} {b : Byte} (hr : Running s) (hp : s.pstate ≠ .readingLine)
    (hn : batchSize s = 2) (hsync : ringRead s s.consCursor = s.cfg.sync)
    (hb : ringRead s (s.consCursor + 1) = b) :
    exec .consume s = .next { rowCheck (headRead b (samplePeak s)) with
      consCursor := ringIndex s (s.consCursor + 2), consumed := s.consumed + 2 } := by
  have hparse : parseBytes [s.cfg.sync, b] (samplePeak s) = rowCheck (headRead b (samplePeak s)) :=
    parseBytes_head b hp
  have hopen : recordOpen s = true := decide_eq_true fun h => absurd h hp
  refine exec_consume_eq_next.mpr ⟨hr, .inr hopen, ?_⟩
  rw [consumer, hn, ringBytes_two, hsync, hb, hparse]

/-! ### A whole record (R90, R94, R108) -/

@[simp] theorem payload_closeRecord (s : State) : payload (closeRecord s) = payload s := rfl
@[simp] theorem crcCalc_closeRecord (s : State) : crcCalc (closeRecord s) = crcCalc s := rfl
@[simp] theorem crcField_closeRecord (s : State) : crcField (closeRecord s) = crcField s := rfl

/-- A sync byte, a row byte that was accepted and the bytes `read` are in the line buffer (R143, R144). -/
def recordRead (rowB : Byte) (read : List Byte) (s : State) : State := { s with
  lineBuf := Memory.writeBytes s.lineBuf 0 (s.cfg.sync :: rowB :: read)
  lineCount := 2 + read.length
  pstate := .readingLine
  rowAddr := s.desc.row rowB }

theorem accumulate_recordRead (rowB : Byte) (read : List Byte) (b : Byte) (s : State) :
    accumulate b (recordRead rowB read s) = recordRead rowB (read ++ [b]) s := by
  have hstore : ∀ m, Memory.write (Memory.writeBytes m 2 read) (2 + read.length) b =
      Memory.writeBytes m 2 (read ++ [b]) := fun m => (Memory.writeBytes_append read [b] m 2).symm
  simp [recordRead, accumulate, lineWrite, Memory.writeBytes, hstore, Nat.add_assoc]

/-- Outside a record, a record whose row byte is accepted is stored to its end and then completed (R143,
R144, R148), whatever the values of its bytes (R158). -/
theorem parseBytes_record {s : State} {rowB y : Byte} {body : List Byte} (hm : s.lineBuf.wf = true)
    (hp : s.pstate ≠ .readingLine) (range : (s.desc.row rowB).toNat < s.desc.totalLines)
    (hlen : body.length + 3 = s.desc.recordSize) :
    parseBytes (s.cfg.sync :: rowB :: (body ++ [y])) s = complete (recordRead rowB (body ++ [y]) s) := by
  have hhead : parseBytes [s.cfg.sync, rowB] s = recordRead rowB [] s := by
    rw [parseBytes_head _ hp, rowCheck_headRead_accepted hm _ range]
    rfl
  have hbody : parseBytes body (recordRead rowB [] s) = recordRead rowB body s :=
    parseBytes_store body (recordRead rowB [] s) rfl le_rfl
      (show 2 + body.length < s.desc.recordSize by omega)
  have hlast : parse y (recordRead rowB body s) = complete (accumulate y (recordRead rowB body s)) :=
    parse_last y _ rfl (show 2 + body.length + 1 ≠ 2 by omega)
      (show 2 + body.length + 1 = s.desc.recordSize by omega)
  have hsplit : s.cfg.sync :: rowB :: (body ++ [y]) = [s.cfg.sync, rowB] ++ (body ++ [y]) := rfl
  rw [hsplit, parseBytes_append, hhead, parseBytes_append, hbody, parseBytes_cons, parseBytes_nil, hlast,
    accumulate_recordRead]

/-- A record as the encoder writes it reaches its completion (R90, R108). -/
theorem parseBytes_lineRecord {s : State} {rowB : Byte} {bytes : List Byte} (hm : s.lineBuf.wf = true)
    (hp : s.pstate ≠ .readingLine) (range : (s.desc.row rowB).toNat < s.desc.totalLines)
    (hlen : bytes.length = s.desc.width) (crc : Half) :
    parseBytes (lineRecord s.cfg rowB bytes crc) s =
      complete (recordRead rowB (bytes ++ s.cfg.crcOrder.bytes crc) s) := by
  obtain ⟨x, y, hcrc, _⟩ := s.cfg.crcOrder.field_bytes crc
  have hrecord : bytes ++ s.cfg.crcOrder.bytes crc = (bytes ++ [x]) ++ [y] := by simp [hcrc]
  rw [lineRecord, hrecord]
  exact parseBytes_record hm hp range (by simp [Descriptor.recordSize, hlen])

section record

variable {s : State} (hm : s.lineBuf.wf = true)
include hm

/-- What is read of a record after its row byte. -/
theorem lineByte_recordRead (rowB : Byte) (read : List Byte) (i : Nat) :
    lineByte (recordRead rowB read s) (2 + i) = read[i]?.getD (Memory.read s.lineBuf (2 + i)) := by
  refine (Memory.read_writeBytes_zero _ hm (2 + i)).trans ?_
  simp [Nat.add_comm 2]

variable (rowB : Byte) {bytes : List Byte} (hlen : bytes.length = s.desc.width) (crc : Half)
include hlen

/-- The payload reads back (R97), and its CRC with it (R148). -/
theorem payload_recordRead (rest : List Byte) : payload (recordRead rowB (bytes ++ rest) s) = bytes := by
  apply List.ext_getElem
  · exact (Memory.length_readBytes _ _ _).trans hlen.symm
  · intro i _ hi
    have hread := lineByte_recordRead hm rowB (bytes ++ rest) i
    rw [List.getElem?_append_left hi, List.getElem?_eq_getElem hi, Option.getD_some] at hread
    simpa [payload, Memory.readBytes, lineByte] using hread

theorem crcCalc_recordRead (rest : List Byte) :
    crcCalc (recordRead rowB (bytes ++ rest) s) = crc16 bytes :=
  congrArg crc16 (payload_recordRead hm rowB hlen rest)

/-- The CRC field reads back, in either order (R94). -/
theorem crcField_recordRead :
    crcField (recordRead rowB (bytes ++ s.cfg.crcOrder.bytes crc) s) = crc := by
  obtain ⟨x, y, hcrc, hfield⟩ := s.cfg.crcOrder.field_bytes crc
  have hx : lineByte (recordRead rowB (bytes ++ [x, y]) s) (2 + bytes.length) = x := by
    simp [lineByte_recordRead hm]
  have hy : lineByte (recordRead rowB (bytes ++ [x, y]) s) (2 + (bytes.length + 1)) = y := by
    simp [lineByte_recordRead hm]
  have hL2 : s.desc.recordSize - 2 = 2 + bytes.length := by rw [hlen, Descriptor.recordSize]; omega
  have hL1 : s.desc.recordSize - 1 = 2 + (bytes.length + 1) := by
    rw [hlen, Descriptor.recordSize]; omega
  calc crcField (recordRead rowB (bytes ++ s.cfg.crcOrder.bytes crc) s)
      = s.cfg.crcOrder.field (lineByte (recordRead rowB (bytes ++ [x, y]) s) (s.desc.recordSize - 2))
          (lineByte (recordRead rowB (bytes ++ [x, y]) s) (s.desc.recordSize - 1)) := by
        rw [hcrc]; rfl
    _ = crc := by rw [hL2, hL1, hx, hy, hfield]

end record

/-! ### CMD (R222) -/

/-- The guard asked twice is the guard (R9, R294). -/
theorem whenRunning_whenRunning (s : State) (o : Host.Outcome State Fault Refusal) :
    whenRunning s (whenRunning s o) = whenRunning s o := by
  unfold whenRunning
  split_ifs <;> rfl

/-- CMD is the operation that the oldest byte decodes to, on the state with the byte taken (R222). -/
theorem exec_cmd_of_queue {s : State} {c : Byte} {rest : List Byte} (h : s.cmdQueue = c :: rest) :
    exec .cmd s = exec (decodeCommand c).instr (setQueue rest s) := by
  obtain ⟨o, ho⟩ := exec_guarded (decodeCommand c).instr (setQueue rest s)
  calc exec .cmd s = whenRunning s (exec (decodeCommand c).instr (setQueue rest s)) := by
        rw [← execCommand_eq]
        show whenRunning s _ = _
        rw [h]
    _ = exec (decodeCommand c).instr (setQueue rest s) := by
        rw [ho]
        exact whenRunning_whenRunning s o

/-! ### The statements -/

/-- Settles O18: the record reaches its completion, and both CRC values read back as the CRC of the payload. -/
theorem encodedLineRecordIsValidated : Obligations.EncodedLineRecordIsValidated := by
  intro s rowB bytes hr hm hp hlen range
  have hpay := payload_recordRead hm rowB hlen (s.cfg.crcOrder.bytes (crc16 bytes))
  have hcalc := crcCalc_recordRead hm rowB hlen (s.cfg.crcOrder.bytes (crc16 bytes))
  have hfield := crcField_recordRead hm rowB hlen (crc16 bytes)
  refine ⟨_, _, Memory.read_writeBytes_zero _ hm,
    (exec_handleLine_eq_next _ _).mpr ⟨hr, ⟨range, hlen⟩, rfl⟩, ?_⟩
  rw [goodRecord, parseBytes_lineRecord hm hp range hlen, complete, if_pos (hcalc.trans hfield.symm),
    crcMatch, payload_closeRecord, hpay]
  rfl

/-- Settles O19: the record reaches its completion, and the CRC field reads back as it was sent. -/
theorem lineRecordWithAWrongCrcIsNeverPlaced : Obligations.LineRecordWithAWrongCrcIsNeverPlaced := by
  intro s rowB bytes crc hr hm hp hlen range hne
  have hcalc := crcCalc_recordRead hm rowB hlen (s.cfg.crcOrder.bytes crc)
  have hfield := crcField_recordRead hm rowB hlen crc
  have hcrc : ¬ crcCalc (recordRead rowB (bytes ++ s.cfg.crcOrder.bytes crc) s) =
      crcField (recordRead rowB (bytes ++ s.cfg.crcOrder.bytes crc) s) := by
    rw [hcalc, hfield]
    exact hne.symm
  refine ⟨_, Memory.read_writeBytes_zero _ hm, ?_⟩
  rw [parseBytes_lineRecord hm hp range hlen, complete, if_neg hcrc, crcMismatch, crcCalc_closeRecord,
    crcField_closeRecord, hcalc, hfield]
  rfl

/-- Settles O59: the row check of the two bytes, in its three cases out of range; and the byte that a false
sync leaves behind is overwritten. -/
theorem consumeAppliesTheRowRulesOutOfRange : Obligations.ConsumeAppliesTheRowRulesOutOfRange := by
  refine ⟨fun s b hr hm hp hn hsync hb range => ?_,
    fun s rowB rest hm hp lock range => parseBytes_after_falseSync hm hp lock range rowB rest⟩
  have hm' : (samplePeak s).lineBuf.wf = true := hm
  refine ⟨(headRead b s).lineBuf, lineByte_headRead hm b, ?_⟩
  rw [exec_consume_head hr hp hn hsync hb]
  refine ⟨fun lock => ?_, fun lock sync => ?_, fun lock sync => ?_⟩
  · rw [rowCheck_headRead_locked hm' b range lock]
    rfl
  · rw [rowCheck_headRead_falseSync hm' b range lock sync]
    rfl
  · rw [rowCheck_headRead_fallback hm' b range lock sync]
    rfl

/-- Settles O20, byte by byte. -/
theorem tableDrivenCrcIsTheBitwiseCrc : Obligations.TableDrivenCrcIsTheBitwiseCrc := by
  intro bs
  have hupdate : crcUpdate = fun c b => crcRounds 8 (c ^^^ halfOf b 0) :=
    funext₂ crcUpdate_eq_crcRounds
  rw [crc16, hupdate, crcBitwise]

/-- Settles O2: what is encoded is a host command, and decode and encode invert each other on those. -/
theorem commandDecodeAndEncodeAgree : Obligations.CommandDecodeAndEncodeAgree := by
  refine ⟨fun d i bytes rest hwf henc => ?_, fun c rest => ⟨(decodeCommand c).instr, rfl, ?_⟩⟩
  · obtain ⟨c, rfl, rfl⟩ := encode_eq_some henc
    rw [List.singleton_append, decode, decodeCommand_byte hwf]
  · rw [encode_instr, byte_decodeCommand]

/-- Settles O1, by the branches of the decoder. -/
theorem commandByteSelectsByFoldedCase : Obligations.CommandByteSelectsByFoldedCase := by
  intro c
  unfold decodeCommand foldCase
  split_ifs with hN hO hS hR hB
  · rw [hN]
    simp
  · rw [hO]
    simp
  · rw [hS]
    simp
  · rw [hR]
    simp
  · rw [hB]
    simp
  · simp only [hN, hO, hS, hR, hB]
    simpa using And.intro hN (.intro hO (.intro hS (.intro hR hB)))

/-- Settles O3, by running the decoder on each byte. -/
theorem commandBytesOfTheSpecDecode : Obligations.CommandBytesOfTheSpecDecode :=
  ⟨rfl, rfl, rfl, rfl, rfl, rfl, rfl, rfl, rfl, rfl, rfl, rfl⟩

/-- Settles O33: the first eight bytes are the header, the others the pixels. -/
theorem packetIsHeaderThenPixels : Obligations.PacketIsHeaderThenPixels := by
  intro s
  have hpixel : streamByte s ∘ (8 + ·) = Memory.read (buffer s s.active.other) :=
    funext (streamByte_pixel s)
  simp only [streamBytes, Memory.readBytes, Nat.zero_add, packetSize, Descriptor.frameSize,
    List.range_add, List.map_append, List.map_map]
  rw [map_streamByte_header, hpixel]

/-- Settles O46: after the boot step the move at hand is CMD, and the byte placed is the oldest. -/
theorem fetchedCommandRunsNext : Obligations.FetchedCommandRunsNext := by
  intro s w _
  have hcmd : step (s.withFetchWord 8 w) =
      exec .cmd { s with booting := false, cmdQueue := BitVec.ofNat 8 w :: s.cmdQueue } :=
    step_of_booted rfl
  refine ⟨(decodeCommand (BitVec.ofNat 8 w)).instr, rfl, by rw [encode_instr, byte_decodeCommand], ?_⟩
  rw [hcmd, exec_cmd_of_queue rfl]
  rfl

end Sys2Proof.Machine
end

section
/-! PROOFS. The byte ring family (40_byte_ring.md): PRODUCE (R121), CONSUME (R123), and the rows that PARSE
dispatches the bytes of a batch to (R124, R141). First the dispatch, one equation for each branch, and the
room in the record, then the statements. -/

namespace Sys2Proof.Machine

section

variable {s : State} {b : Byte}

/-! ### The dispatch of PARSE (R141) -/

theorem parse_of_scanningForSync (hp : s.pstate = .scanningForSync) : parse b s = parseSfs b s := by
  rw [parse, hp]

theorem parse_of_readingLine (hp : s.pstate = .readingLine) : parse b s = parseRl b s := by
  rw [parse, hp]

theorem parse_of_scanningGap (hp : s.pstate = .scanningGap) : parse b s = parseSg b s := by
  rw [parse, hp]

theorem parse_of_gapSync (hp : s.pstate = .scanningGap) (hb : b = s.cfg.sync) :
    parse b s = openRecord b s := by
  rw [parse_of_scanningGap hp, parseSg, if_pos hb]

theorem parse_of_gapFill (hp : s.pstate = .scanningGap) (hb : b ≠ s.cfg.sync) (hg : 2 ≤ s.gapRemaining) :
    parse b s = gapFill s := by
  rw [parse_of_scanningGap hp, parseSg, if_neg hb, if_pos hg]

theorem parse_of_gapExhaust (hp : s.pstate = .scanningGap) (hb : b ≠ s.cfg.sync)
    (hg : s.gapRemaining ≤ 1) : parse b s = gapExhaust s := by
  have hlt : ¬ 2 ≤ s.gapRemaining := by omega
  rw [parse_of_scanningGap hp, parseSg, if_neg hb, if_neg hlt]

/-! ### The room in the record and the enable of PRODUCE (R121, R143) -/

theorem recordOpen_iff : recordOpen s = true ↔
    (s.pstate = .readingLine → 1 ≤ s.lineCount ∧ s.lineCount < s.desc.recordSize) := decide_eq_true_iff

/-- While capture is halted PRODUCE has no move (R121). -/
theorem exec_produce_of_halted (h : Running s) (hc : s.captureEnabled = false) :
    exec (.produce b) s = .refused .notEnabled :=
  (attempt_eq_notEnabled h).mpr (Bool.eq_false_iff.mp hc)

end

/-! ### The statements -/

/-- Settles O4: the effect is `producer`, whose ring is one write at the index of P. -/
theorem produceStoresTheByteAndAdvancesTheCursor :
    Obligations.ProduceStoresTheByteAndAdvancesTheCursor := by
  intro s b hc hm
  refine ⟨fun henabled hterm => ⟨(producer b s).ring, ?_, fun a => ?_⟩,
    fun hhalted hterm => exec_produce_of_halted ⟨hc, hterm⟩ hhalted,
    fun hterm => exec_of_handedOff hc hterm _⟩
  · exact (exec_produce_eq_next b).mpr ⟨⟨hc, hterm⟩, henabled, rfl⟩
  · exact Memory.read_write s.ring (s.prodCursor % s.cfg.ringN) b a hm

/-- Settles O5: the record has room, so CONSUME goes on with `consumer`. -/
theorem consumeParsesOneBatchInArrivalOrder : Obligations.ConsumeParsesOneBatchInArrivalOrder :=
  fun _ h hroom => exec_consume_eq_next.mpr ⟨h, .inr (recordOpen_iff.mpr hroom), rfl⟩

/-- Settles O58, by the branches of the dispatch: each is the effect of its row. -/
theorem parseRunsTheRowItsDispatchSelects : Obligations.ParseRunsTheRowItsDispatchSelects := by
  refine ⟨parseBytes_nil, parseBytes_cons, fun s b h => ⟨fun hp => ?_, fun hp hlow hhigh => ?_,
    fun hp hb => ?_, fun hp hb hg => ?_, fun hp hb hg => ?_⟩⟩
  · exact (exec_parseSfs_eq_next b).mpr ⟨h, hp, (parse_of_scanningForSync hp).symm⟩
  · exact (exec_parseRlAccumulate_eq_next b).mpr
      ⟨h, hp, recordOpen_iff.mpr fun _ => ⟨hlow, hhigh⟩, (parse_of_readingLine hp).symm⟩
  · exact (exec_parseSgSync_eq_next b).mpr ⟨h, ⟨hp, hb⟩, (parse_of_gapSync hp hb).symm⟩
  · exact (exec_parseSgFill_eq_next b).mpr ⟨h, ⟨⟨hp, hb⟩, hg⟩, (parse_of_gapFill hp hb hg).symm⟩
  · exact (exec_parseSgExhaust_eq_next b).mpr ⟨h, ⟨⟨hp, hb⟩, hg⟩, (parse_of_gapExhaust hp hb hg).symm⟩

end Sys2Proof.Machine
end

section
/-! PROOFS. The line parser family (41_line_parser.md): the rows R142 to R154, each with all it writes, the
gap budget (R155) and the lock (R156). First what the rows of the row check and of the completion do where
they are selected and what a run of filler bytes leaves, then the statements. -/

namespace Sys2Proof.Machine

section

variable {s : State} {b : Byte}

/-! ### ScanningForSync (R142) -/

theorem parseSfs_of_sync (hb : b = s.cfg.sync) : parseSfs b s = openRecord b s := if_pos hb

theorem parseSfs_of_ne_sync (hb : b ≠ s.cfg.sync) : parseSfs b s = s := if_neg hb

/-- A byte that starts a record is its first, and the rest of the line buffer is left (R142, R152). -/
theorem read_openRecord (hm : s.lineBuf.wf = true) (b : Byte) (a : Nat) :
    Memory.read (openRecord b s).lineBuf a = if a = 0 then b else Memory.read s.lineBuf a :=
  Memory.read_write s.lineBuf 0 b a hm

/-! ### ReadingLine: the store and what is due after it (R143) -/

theorem read_accumulate (hm : s.lineBuf.wf = true) (b : Byte) (a : Nat) :
    Memory.read (accumulate b s).lineBuf a = if a = s.lineCount then b else Memory.read s.lineBuf a :=
  Memory.read_write s.lineBuf s.lineCount b a hm

theorem rowByte_accumulate (hm : s.lineBuf.wf = true) (h : s.lineCount = 1) :
    rowByte (accumulate b s) = b :=
  (read_accumulate hm b 1).trans (if_pos h.symm)

/-- The row check of a byte just stored is about that byte (R144). -/
theorem rowBelowT_accumulate (hm : s.lineBuf.wf = true) (h : s.lineCount = 1) :
    RowBelowT (accumulate b s) ↔ (s.desc.row b).toNat < s.desc.totalLines := by
  rw [RowBelowT, read_lineBuf_one, rowByte_accumulate hm h, accumulate_desc]

theorem parseRl_of_row (h : s.lineCount + 1 = 2) : parseRl b s = rowCheck (accumulate b s) := if_pos h

theorem parseRl_of_last (h : s.lineCount + 1 = s.desc.recordSize) :
    parseRl b s = complete (accumulate b s) := by
  have hrow : s.lineCount + 1 ≠ 2 := by rw [h, Descriptor.recordSize]; omega
  exact (if_neg hrow).trans (if_pos h)

theorem parseRl_of_between (hrow : s.lineCount + 1 ≠ 2) (hlast : s.lineCount + 1 ≠ s.desc.recordSize) :
    parseRl b s = accumulate b s :=
  (if_neg hrow).trans (if_neg hlast)

/-! ### The row check (R144 to R147) -/

theorem rowCheck_of_inRange (range : RowBelowT s) : rowCheck s = rowAccepted s :=
  if_pos ((rowInRange_iff s).mpr range)

section outOfRange

variable (range : ¬ RowBelowT s)
include range

theorem rowCheck_of_locked (lock : s.frameLocked = true) : rowCheck s = rowLocked s := by
  rw [rowCheck, if_neg (mt (rowInRange_iff s).mp range), if_pos lock]

theorem rowCheck_of_falseSync (lock : s.frameLocked = false) (sync : rowByte s = s.cfg.sync) :
    rowCheck s = rowFalseSync s := by
  rw [rowCheck, if_neg (mt (rowInRange_iff s).mp range), if_neg (Bool.eq_false_iff.mp lock), if_pos sync]

theorem rowCheck_of_fallback (lock : s.frameLocked = false) (sync : rowByte s ≠ s.cfg.sync) :
    rowCheck s = rowFallback s := by
  rw [rowCheck, if_neg (mt (rowInRange_iff s).mp range), if_neg (Bool.eq_false_iff.mp lock), if_neg sync]

end outOfRange

section rowRule

variable (hr : Running s) (due : RowByteStored s)
include hr due

theorem exec_rowInRange_of_due (range : RowBelowT s) :
    exec .parseRlRowInRange s = .next (rowAccepted s) :=
  exec_parseRlRowInRange_eq_next.mpr ⟨hr, by simp [rowDue_iff, rowInRange_iff, due, range], rfl⟩

variable (range : ¬ RowBelowT s)
include range

theorem exec_rowLocked_of_due (lock : s.frameLocked = true) :
    exec .parseRlRowLocked s = .next (rowLocked s) :=
  exec_parseRlRowLocked_eq_next.mpr
    ⟨hr, by simp [rowDue_iff, rowInRange_eq_false_iff, due, range, lock], rfl⟩

theorem exec_rowFalseSync_of_due (lock : s.frameLocked = false) (sync : rowByte s = s.cfg.sync) :
    exec .parseRlRowFalseSync s = .next (rowFalseSync s) :=
  exec_parseRlRowFalseSync_eq_next.mpr
    ⟨hr, by simp [rowDue_iff, rowInRange_eq_false_iff, due, range, lock, sync], rfl⟩

theorem exec_rowFallback_of_due (lock : s.frameLocked = false) (sync : rowByte s ≠ s.cfg.sync) :
    exec .parseRlRowFallback s = .next (rowFallback s) :=
  exec_parseRlRowFallback_eq_next.mpr
    ⟨hr, by simp [rowDue_iff, rowInRange_eq_false_iff, due, range, lock, sync], rfl⟩

end rowRule

/-! ### The completion (R148 to R151) -/

theorem complete_of_match (h : crcCalc s = crcField s) : complete s = crcMatch (closeRecord s) := if_pos h

theorem complete_of_mismatch (h : crcCalc s ≠ crcField s) : complete s = crcMismatch (closeRecord s) :=
  if_neg h

section crcRule

variable (hr : Running s) (hp : s.pstate = .readingLine) (hl : s.lineCount = 0)
include hr hp hl

theorem exec_crcMatch_of_due (h : crcCalc s = crcField s) : exec .parseRlCrcMatch s = .next (crcMatch s) :=
  exec_parseRlCrcMatch_eq_next.mpr ⟨hr, ⟨(crcDue_iff s).mpr ⟨hp, hl⟩, h⟩, rfl⟩

theorem exec_crcMismatch_of_due (h : crcCalc s ≠ crcField s) :
    exec .parseRlCrcMismatch s = .next (crcMismatch s) :=
  exec_parseRlCrcMismatch_eq_next.mpr ⟨hr, ⟨(crcDue_iff s).mpr ⟨hp, hl⟩, h⟩, rfl⟩

end crcRule

/-! ### The lock (R156) -/

@[simp] theorem rowAccepted_frameLocked (s : State) : (rowAccepted s).frameLocked = s.frameLocked := rfl
@[simp] theorem rowLocked_frameLocked (s : State) : (rowLocked s).frameLocked = s.frameLocked := rfl
@[simp] theorem rowFalseSync_frameLocked (s : State) : (rowFalseSync s).frameLocked = s.frameLocked := rfl
@[simp] theorem rowFallback_frameLocked (s : State) : (rowFallback s).frameLocked = s.frameLocked := rfl
@[simp] theorem crcMismatch_frameLocked (s : State) : (crcMismatch s).frameLocked = s.frameLocked := rfl
@[simp] theorem gapFill_frameLocked (s : State) : (gapFill s).frameLocked = s.frameLocked := rfl

/-- A match sets the lock, counts, and grants the nominal budget (R151). -/
theorem crcMatch_locks (s : State) : (crcMatch s).frameLocked = true ∧
    (crcMatch s).stats.crcOk = s.stats.crcOk + 1 ∧ (crcMatch s).gapRemaining = s.cfg.maxGap ∧
      (crcMatch s).pstate = .scanningGap := by simp [crcMatch]

/-- The exhausting byte clears the lock and counts a resync (R154). -/
theorem gapExhaust_unlocks (s : State) : (gapExhaust s).frameLocked = false ∧
    (gapExhaust s).stats.resync = s.stats.resync + 1 ∧ (gapExhaust s).pstate = .scanningForSync :=
  ⟨rfl, rfl, rfl⟩

/-! ### A run of filler bytes (R153 to R155) -/

/-- `n` filler bytes have been counted and taken from the budget (R153). -/
def gapFilled (n : Nat) (s : State) : State := { s with
  gapRemaining := s.gapRemaining - n
  stats := { s.stats with gapBytes := s.stats.gapBytes + BitVec.ofNat 32 n } }

theorem gapFilled_zero (s : State) : gapFilled 0 s = s := by simp [gapFilled]

theorem gapFilled_gapFill (n : Nat) (s : State) : gapFilled n (gapFill s) = gapFilled (n + 1) s := by
  have hcount : s.stats.gapBytes + 1#32 + BitVec.ofNat 32 n =
      s.stats.gapBytes + BitVec.ofNat 32 (n + 1) := by
    rw [BitVec.ofNat_add, BitVec.add_assoc, BitVec.add_comm 1#32]
  have hbudget : s.gapRemaining - 1 - n = s.gapRemaining - (n + 1) := by omega
  simp [gapFilled, gapFill, hcount, hbudget]

/-- Fewer filler bytes than the budget are filled, one by one (R153, R155). -/
theorem parseBytes_filler {bs : List Byte} {s : State} (hp : s.pstate = .scanningGap)
    (hsync : ∀ b ∈ bs, b ≠ s.cfg.sync) (hlen : bs.length < s.gapRemaining) :
    parseBytes bs s = gapFilled bs.length s := by
  induction bs generalizing s with
  | nil => rw [parseBytes_nil, List.length_nil, gapFilled_zero]
  | cons b bs ih =>
    rw [List.length_cons] at hlen
    have hfill : parse b s = gapFill s :=
      parse_of_gapFill hp (hsync b List.mem_cons_self) (by omega)
    have hrest : parseBytes bs (gapFill s) = gapFilled bs.length (gapFill s) :=
      ih hp (fun c hc => hsync c (List.mem_cons_of_mem b hc)) (show _ < s.gapRemaining - 1 by omega)
    rw [parseBytes_cons, hfill, hrest, gapFilled_gapFill, List.length_cons]

/-- The filler byte that meets the budget exhausts what those before it left (R154, R155). -/
theorem parseBytes_filler_exhaust {bs : List Byte} (hp : s.pstate = .scanningGap)
    (hsync : ∀ c ∈ bs ++ [b], c ≠ s.cfg.sync) (hlen : bs.length + 1 = s.gapRemaining) :
    parseBytes (bs ++ [b]) s = gapExhaust (gapFilled bs.length s) := by
  have hfill : parseBytes bs s = gapFilled bs.length s :=
    parseBytes_filler hp (fun c hc => hsync c (List.mem_append_left _ hc)) (by omega)
  have hlast : parse b (gapFilled bs.length s) = gapExhaust (gapFilled bs.length s) :=
    parse_of_gapExhaust hp (hsync b (by simp)) (show s.gapRemaining - bs.length ≤ 1 by omega)
  rw [parseBytes_append, hfill, parseBytes_cons, parseBytes_nil, hlast]

end

/-! ### The statements -/

/-- Settles O16: by induction over the filler bytes, and for the whole budget by its last one. -/
theorem gapBudgetToleratesOneLessThanItself : Obligations.GapBudgetToleratesOneLessThanItself := by
  intro s bs hp hbudget hsync
  refine ⟨parseBytes_filler hp hsync, fun hlen => ?_⟩
  obtain rfl | ⟨init, last, rfl⟩ := List.eq_nil_or_concat' bs
  · rw [List.length_nil] at hlen
    omega
  · rw [List.length_append, List.length_singleton] at hlen ⊢
    have hcount : s.stats.gapBytes + BitVec.ofNat 32 init.length + 1#32 =
        s.stats.gapBytes + BitVec.ofNat 32 (init.length + 1) := by
      rw [BitVec.ofNat_add, BitVec.add_assoc]
    rw [parseBytes_filler_exhaust hp hsync hlen]
    simp [gapExhaust, gapFilled, emit, hcount]

/-- Settles O17, by the cases of a PARSE: the row of R151 sets the lock, that of R154 clears it, and every
other leaves it. -/
theorem frameLockIsSetByAMatchAndClearedByExhaustion :
    Obligations.FrameLockIsSetByAMatchAndClearedByExhaustion := by
  intro s b hne
  cases parse_cases b s with
  | crcMatch h row last crc e =>
    rw [e]
    exact .inl (crcMatch_locks (closeRecord (accumulate b s)))
  | gapExhaust h sync budget e =>
    rw [e]
    obtain ⟨hclear, hresync, hscan⟩ := gapExhaust_unlocks s
    exact .inr ⟨hclear, h, budget, sync, hresync, hscan⟩
  | discard h sync e | opened h sync e | stored h row last e | rowAccepted h row range e
  | rowLocked h row range lock e | rowFalseSync h row range lock sync e
  | rowFallback h row range lock sync e | crcMismatch h row last crc e | gapFill h sync budget e =>
    simp [e] at hne

/-- Settles O9, by whether the byte is the sync byte. -/
theorem scanningForSyncStartsARecordOrDiscards : Obligations.ScanningForSyncStartsARecordOrDiscards := by
  intro s b hr hp hm
  refine ⟨fun hb => ⟨(openRecord b s).lineBuf, ?_, read_openRecord hm b⟩, fun hb => ?_⟩
  · exact (exec_parseSfs_eq_next b).mpr ⟨hr, hp, parseSfs_of_sync hb⟩
  · exact (exec_parseSfs_eq_next b).mpr ⟨hr, hp, parseSfs_of_ne_sync hb⟩

/-- Settles O10: after the store, PARSE has the effect of the row that is due. -/
theorem readingLineStoresTheByteThenChecks : Obligations.ReadingLineStoresTheByteThenChecks := by
  intro s b hr hp hm hlow hhigh
  have hgo : exec (.parseRlAccumulate b) s = .next (parseRl b s) :=
    (exec_parseRlAccumulate_eq_next b).mpr ⟨hr, hp, recordOpen_iff.mpr fun _ => ⟨hlow, hhigh⟩, rfl⟩
  refine ⟨(accumulate b s).lineBuf, read_accumulate hm b, ?_, _, hgo⟩
  have hr' : Running (accumulate b s) := hr
  have hrow (h : s.lineCount + 1 = 2) : rowByte (accumulate b s) = b :=
    rowByte_accumulate hm (by omega)
  have hrange (h : s.lineCount + 1 = 2) :
      RowBelowT (accumulate b s) ↔ (s.desc.row b).toNat < s.desc.totalLines :=
    rowBelowT_accumulate hm (by omega)
  have hout (h : s.lineCount + 1 = 2) (ht : s.desc.totalLines ≤ (s.desc.row b).toNat) :
      ¬ RowBelowT (accumulate b s) := (hrange h).not.mpr (by omega)
  rw [hgo]
  refine ⟨fun hrow hlast => ?_, fun h => ?_, fun h ht => ?_, fun h ht lock => ?_,
    fun h ht lock sync => ?_, fun h ht lock sync => ?_⟩
  · rw [parseRl_of_between (ne_of_gt hrow) (ne_of_lt hlast)]
    rfl
  · rw [parseRl_of_last h]
    exact (exec_parseRlComplete_eq_next.mpr ⟨hr', ⟨hp, h⟩, rfl⟩).symm
  · rw [parseRl_of_row h, rowCheck_of_inRange ((hrange h).mpr ht)]
    exact (exec_rowInRange_of_due hr' ⟨hp, h⟩ ((hrange h).mpr ht)).symm
  · rw [parseRl_of_row h, rowCheck_of_locked (hout h ht) lock]
    exact (exec_rowLocked_of_due hr' ⟨hp, h⟩ (hout h ht) lock).symm
  · have sync' := (hrow h).trans sync
    rw [parseRl_of_row h, rowCheck_of_falseSync (hout h ht) lock sync']
    exact (exec_rowFalseSync_of_due hr' ⟨hp, h⟩ (hout h ht) lock sync').symm
  · have sync' := (hrow h).trans_ne sync
    rw [parseRl_of_row h, rowCheck_of_fallback (hout h ht) lock sync']
    exact (exec_rowFallback_of_due hr' ⟨hp, h⟩ (hout h ht) lock sync').symm

/-- Settles O11: each of the four rows is selected, and its effect is what the statement writes out. -/
theorem rowCheckHasFourOutcomes : Obligations.RowCheckHasFourOutcomes := by
  intro s hr hp hl hm
  exact ⟨fun range => exec_rowInRange_of_due hr ⟨hp, hl⟩ range,
    fun range lock => exec_rowLocked_of_due hr ⟨hp, hl⟩ (Nat.not_lt.mpr range) lock,
    fun range lock sync => ⟨(rowFalseSync s).lineBuf,
      exec_rowFalseSync_of_due hr ⟨hp, hl⟩ (Nat.not_lt.mpr range) lock sync,
      fun a => Memory.read_write s.lineBuf 0 _ a hm⟩,
    fun range lock sync => exec_rowFallback_of_due hr ⟨hp, hl⟩ (Nat.not_lt.mpr range) lock sync⟩

/-- Settles O12: the statement writes out `crcCalc` and `crcField`, which `complete` compares, and the record is
closed before the row that the comparison selects. -/
theorem completionComparesTheCrc : Obligations.CompletionComparesTheCrc := by
  intro s hr hp hl
  have hgo : exec .parseRlComplete s = .next (complete s) :=
    exec_parseRlComplete_eq_next.mpr ⟨hr, ⟨hp, hl⟩, rfl⟩
  have hclosed : Running (closeRecord s) := hr
  refine ⟨fun h => ?_, fun h => ?_, _, hgo⟩
  · rw [hgo, complete_of_match h]
    exact (exec_crcMatch_of_due hclosed hp rfl h).symm
  · rw [hgo, complete_of_mismatch h]
    exact (exec_crcMismatch_of_due hclosed hp rfl h).symm

/-- Settles O13: the effect of R150, written out. -/
theorem crcMismatchCountsAndExtendsTheGap : Obligations.CrcMismatchCountsAndExtendsTheGap :=
  fun _ hr hp hl h => exec_crcMismatch_of_due hr hp hl h

/-- Settles O14: the payload has W bytes and the row is below T, so HANDLE_LINE goes on. -/
theorem crcMatchHandlesTheLineAndLocks : Obligations.CrcMatchHandlesTheLineAndLocks := by
  intro s hr hp hl h range
  have hline : exec (.handleLine s.rowAddr (payload s)) (countCrcOk s) =
      .next (handleLine s.rowAddr (payload s) (countCrcOk s)) :=
    (exec_handleLine_eq_next _ _).mpr ⟨hr, ⟨range, Memory.length_readBytes _ _ _⟩, rfl⟩
  exact ⟨_, hline, exec_crcMatch_of_due hr hp hl h⟩

/-- Settles O15, by the three rows of ScanningGap. -/
theorem scanningGapHasThreeOutcomes : Obligations.ScanningGapHasThreeOutcomes := by
  intro s b hr hp hm
  refine ⟨fun hb => ⟨(openRecord b s).lineBuf, ?_, read_openRecord hm b⟩, fun hb hg => ?_, fun hb hg => ?_⟩
  · exact (exec_parseSgSync_eq_next b).mpr ⟨hr, ⟨hp, hb⟩, rfl⟩
  · exact (exec_parseSgFill_eq_next b).mpr ⟨hr, ⟨⟨hp, hb⟩, hg⟩, rfl⟩
  · exact (exec_parseSgExhaust_eq_next b).mpr ⟨hr, ⟨⟨hp, hb⟩, hg⟩, rfl⟩

end Sys2Proof.Machine
end

section
/-! PROOFS. The frame assembler family (42_frame_assembler.md): PLACE (R178, R179), the drop and the handoff
(R174 to R177), HANDLE_LINE in its order (R171 to R173, R180, R181), and the lines of one frame (R185). First
each operation as one update of the state, then HANDLE_LINE with and without a boundary, then what the lines
of a frame have left after each of them, then the statements. -/

namespace Sys2Proof.Machine

section

variable {s t : State} {row : Byte} {bytes : List Byte}

/-! ### Each operation as one update of the state (R174, R175, R178, R179) -/

/-- Marking a row that is placed already changes nothing (R179). -/
theorem placedWith_of_placed {p : BitVec 256} {r : Nat} (h : p.getLsbD r = true) : placedWith p r = p := by
  apply BitVec.eq_of_getLsbD_eq
  intro i hi
  rw [placedWith, BitVec.getLsbD_or, BitVec.getLsbD_twoPow]
  by_cases hir : r = i
  · rw [← hir, h, Bool.true_or]
  · simp [hir]

/-- The bookkeeping of PLACE, for a new row and for one that is placed already (R179). -/
theorem markPlaced_eq (row : Byte) (s : State) : markPlaced row s = { s with
    placed := placedWith s.placed row.toNat
    placedCount := if s.placed.getLsbD row.toNat then s.placedCount else s.placedCount + 1 } := by
  unfold markPlaced isPlaced
  split_ifs with h
  · rw [placedWith_of_placed h]
  · rfl

/-- Everything that PLACE writes (R178, R179). -/
theorem placeLine_eq (row : Byte) (bytes : List Byte) (s : State) : placeLine row bytes s =
    { setBuffer s.active (Memory.writeBytes (buffer s s.active) (row.toNat * s.desc.width) bytes) s with
      placed := placedWith s.placed row.toNat
      placedCount := if s.placed.getLsbD row.toNat then s.placedCount else s.placedCount + 1 } := by
  rw [placeLine, markPlaced_eq, bufWriteBytes_placed, bufWriteBytes_placedCount]
  rfl

/-- Everything that the drop writes (R174, R177). -/
theorem boundaryDrop_eq (s : State) : boundaryDrop s =
    { setBuffer s.active (Memory.clearBelow s.desc.frameSize (buffer s s.active)) s with
      placed := 0
      placedCount := 0
      stats := { s.stats with framesDropped := s.stats.framesDropped + 1 }
      history := s.history ++ [.frameDropped s.frameId] } := by
  unfold boundaryDrop
  cases s.active <;> rfl

/-- Everything that the handoff writes (R175, R176, R177). -/
theorem boundaryHandoff_eq (s : State) : boundaryHandoff s =
    { setBuffer s.active.other (Memory.clearBelow s.desc.frameSize (buffer s s.active.other)) s with
      pending := true
      sendCursor := 0
      hdr := headerBytes s.cfg s.desc s.frameId
      active := s.active.other
      placed := 0
      placedCount := 0
      stats := { s.stats with framesSent := s.stats.framesSent + 1 } } := by
  have hswap : swapActive (countSent (stampHeader (takeSlot s))) = { s with
      pending := true
      sendCursor := 0
      hdr := headerBytes s.cfg s.desc s.frameId
      active := s.active.other
      stats := { s.stats with framesSent := s.stats.framesSent + 1 } } := rfl
  rw [boundaryHandoff, hswap]
  cases s.active.other <;> rfl

/-- The eight bytes of the header, written out (R99, R176). -/
theorem headerBytes_eq (c : Config) (d : Descriptor) (f : Half) : headerBytes c d f =
    #v[c.magicA, c.magicB, f.setWidth 8, (f >>> 8).setWidth 8,
      BitVec.ofNat 8 d.width, BitVec.ofNat 8 (d.width / 256),
      BitVec.ofNat 8 d.height, BitVec.ofNat 8 (d.height / 256)] := by
  simp only [headerBytes, lowByte_ofNat, highByte_ofNat]
  rfl

/-! ### HANDLE_LINE with and without a boundary (R171 to R173) -/

theorem isBoundary_eq_false_iff : isBoundary s row = false ↔ ¬(0 < s.placedCount ∧ row ≤ s.prevRow) :=
  Bool.eq_false_iff.trans (not_congr (isBoundary_iff s row))

/-- After the boundary, the line goes on as a line that makes none (R171). -/
theorem handleLine_boundary (hb : isBoundary s row = true) :
    handleLine row bytes (boundary s) = handleLine row bytes s := by
  rw [handleLine_of_no_boundary bytes (isBoundary_boundary row s), handleLine_of_boundary bytes hb]

/-- A blanking row is not placed (R181). -/
theorem handleLine_of_blanking (hb : isBoundary s row = false) (hrow : s.desc.height ≤ row.toNat) :
    handleLine row bytes s = setPrevRow row s := by
  rw [handleLine_of_no_boundary bytes hb, placeIfActive, if_neg (Nat.not_lt.mpr hrow)]

/-- An active row is placed (R178). -/
theorem handleLine_of_active (hb : isBoundary s row = false) (hrow : row.toNat < s.desc.height) :
    handleLine row bytes s = setPrevRow row (placeLine row bytes s) := by
  rw [handleLine_of_no_boundary bytes hb, placeIfActive, if_pos hrow]

/-- The boundary is the increment of R173 and then the row of the opcode table that the slot selects. -/
theorem exec_boundary_row (hr : Running s) (hrow : row.toNat < s.desc.totalLines)
    (hb : isBoundary s row = true) :
    (if s.pending then exec (.boundaryDrop row) (nextFrameId s)
      else exec (.boundaryHandoff row) (nextFrameId s)) = .next (boundary s) := by
  cases hp : s.pending with
  | true =>
    rw [if_pos rfl, boundary_of_pending hp]
    exact (exec_boundaryDrop_eq_next row).mpr ⟨hr, ⟨⟨hrow, hb⟩, hp⟩, rfl⟩
  | false =>
    rw [if_neg Bool.false_ne_true, boundary_of_free hp]
    exact (exec_boundaryHandoff_eq_next row).mpr ⟨hr, ⟨⟨hrow, hb⟩, hp⟩, rfl⟩

/-- A boundary counts one frame, as sent or as dropped (R174, R175). -/
theorem boundary_counts_one_frame (s : State) :
    (boundary s).stats.framesSent + (boundary s).stats.framesDropped =
      s.stats.framesSent + s.stats.framesDropped + 1 := by
  cases hp : s.pending with
  | true => simp [boundary_of_pending hp, BitVec.add_assoc]
  | false =>
    simp only [boundary_of_free hp, boundaryHandoff_stats, nextFrameId_stats]
    ac_rfl

/-! ### Bytes read back from a buffer (R73) -/

theorem Memory.readBytes_add (m : Memory) (a n k : Nat) :
    Memory.readBytes m a (n + k) = Memory.readBytes m a n ++ Memory.readBytes m (a + n) k := by
  simp [Memory.readBytes, List.range_add, Nat.add_assoc, Function.comp_def]

/-- A run of bytes written reads back as the run. -/
theorem Memory.readBytes_writeBytes_same {m : Memory} (hm : m.wf = true) (a : Nat) (bs : List Byte) :
    Memory.readBytes (Memory.writeBytes m a bs) a bs.length = bs := by
  apply List.ext_getElem (Memory.length_readBytes _ _ _)
  intro i _ hi
  simp [Memory.readBytes, Memory.read_writeBytes bs m a _ hm, hi]

/-- What stands before a run of bytes is left by it. -/
theorem Memory.readBytes_writeBytes_before {m : Memory} (hm : m.wf = true) (a n : Nat) (bs : List Byte) :
    Memory.readBytes (Memory.writeBytes m (a + n) bs) a n = Memory.readBytes m a n := by
  apply List.map_congr_left
  intro i hi
  have hlt : i < n := List.mem_range.mp hi
  rw [Memory.read_writeBytes bs m (a + n) (a + i) hm, if_neg (by omega)]

/-- So a run of bytes written at the end of what has been read comes after it. -/
theorem Memory.readBytes_writeBytes_end {m : Memory} (hm : m.wf = true) (n : Nat) (bs : List Byte) :
    Memory.readBytes (Memory.writeBytes m n bs) 0 (n + bs.length) = Memory.readBytes m 0 n ++ bs := by
  have hbefore := Memory.readBytes_writeBytes_before hm 0 n bs
  rw [Nat.zero_add] at hbefore
  rw [Memory.readBytes_add, Nat.zero_add, hbefore, Memory.readBytes_writeBytes_same hm]

/-! ### The record of a line as HANDLE_LINE gets it (R151) -/

/-- A whole good record is in the line buffer, closed and counted: what HANDLE_LINE starts from. -/
def lineRead (rowB : Byte) (bytes : List Byte) (s : State) : State :=
  countCrcOk (closeRecord (recordRead rowB (bytes ++ s.cfg.crcOrder.bytes (crc16 bytes)) s))

/-- What the line's record leaves: HANDLE_LINE, the lock and the nominal gap (R151). -/
def lineHandled (rowB : Byte) (bytes : List Byte) (s : State) : State :=
  enterGap s.cfg.maxGap (lockFrame (handleLine (s.desc.row rowB) bytes (lineRead rowB bytes s)))

/-- A good record, from outside a record, is handled as a line (R108, R151). -/
theorem parseBytes_goodRecord {rowB : Byte} (hm : s.lineBuf.wf = true) (hp : s.pstate ≠ .readingLine)
    (range : (s.desc.row rowB).toNat < s.desc.totalLines) (hlen : bytes.length = s.desc.width) :
    parseBytes (goodRecord s.cfg rowB bytes) s = lineHandled rowB bytes s := by
  have hpay := payload_recordRead hm rowB hlen (s.cfg.crcOrder.bytes (crc16 bytes))
  have hcalc := crcCalc_recordRead hm rowB hlen (s.cfg.crcOrder.bytes (crc16 bytes))
  have hfield := crcField_recordRead hm rowB hlen (crc16 bytes)
  rw [goodRecord, parseBytes_lineRecord hm hp range hlen, complete_of_match (hcalc.trans hfield.symm),
    crcMatch, payload_closeRecord, hpay]
  rfl

section lineRead

variable (rowB : Byte) (bytes : List Byte) (s : State)

@[simp] theorem lineRead_cfg : (lineRead rowB bytes s).cfg = s.cfg := rfl
@[simp] theorem lineRead_desc : (lineRead rowB bytes s).desc = s.desc := rfl
@[simp] theorem lineRead_active : (lineRead rowB bytes s).active = s.active := rfl
@[simp] theorem lineRead_pending : (lineRead rowB bytes s).pending = s.pending := rfl
@[simp] theorem lineRead_frameId : (lineRead rowB bytes s).frameId = s.frameId := rfl
@[simp] theorem lineRead_stats :
    (lineRead rowB bytes s).stats = { s.stats with crcOk := s.stats.crcOk + 1 } := rfl
@[simp] theorem lineRead_buffer (k : BufferId) : buffer (lineRead rowB bytes s) k = buffer s k := rfl
@[simp] theorem lineRead_isPlaced (r : Nat) : isPlaced (lineRead rowB bytes s) r = isPlaced s r := rfl
@[simp] theorem lineRead_isBoundary (row : Byte) :
    isBoundary (lineRead rowB bytes s) row = isBoundary s row := rfl

end lineRead

@[simp] theorem buffer_enterGap (n : Nat) (s : State) (k : BufferId) :
    buffer (enterGap n s) k = buffer s k := rfl

@[simp] theorem buffer_lockFrame (s : State) (k : BufferId) : buffer (lockFrame s) k = buffer s k := rfl

/-- The line of a new row that makes no boundary is placed (R178 to R180). -/
theorem lineHandled_of_new {rowB : Byte} (hb : isBoundary s (s.desc.row rowB) = false)
    (hrow : (s.desc.row rowB).toNat < s.desc.height) :
    lineHandled rowB bytes s = enterGap s.cfg.maxGap (lockFrame (setPrevRow (s.desc.row rowB)
      (placeLine (s.desc.row rowB) bytes (lineRead rowB bytes s)))) := by
  rw [lineHandled, handleLine_of_active (by simpa using hb) (by simpa using hrow)]

/-- The line of an active row that makes a boundary while the slot is free is the first of the frame after the
handoff (R171, R175). -/
theorem lineHandled_of_handoff {rowB : Byte} (hb : isBoundary s (s.desc.row rowB) = true)
    (hp : s.pending = false) (hrow : (s.desc.row rowB).toNat < s.desc.height) :
    lineHandled rowB bytes s = enterGap s.cfg.maxGap (lockFrame (setPrevRow (s.desc.row rowB)
      (placeLine (s.desc.row rowB) bytes (boundaryHandoff (nextFrameId (lineRead rowB bytes s)))))) := by
  have hfree : boundary (lineRead rowB bytes s) = boundaryHandoff (nextFrameId (lineRead rowB bytes s)) :=
    boundary_of_free hp
  rw [lineHandled, ← handleLine_boundary (by simpa using hb),
    handleLine_of_active (isBoundary_boundary _ _) (by simpa using hrow), hfree]

/-! ### The lines of one frame (R182, R185) -/

/-- The lines of rows 0, 1, … with the payloads `ps`, read from `s` on, have left `t`: they are the placed
rows of the current frame, in their places, and no frame has ended. -/
structure FrameSoFar (s : State) (ps : List (List Byte)) (t : State) : Prop where
  inv : Inv t
  outside : t.pstate ≠ .readingLine
  cfg : t.cfg = s.cfg
  desc : t.desc = s.desc
  free : t.pending = false
  frameId : t.frameId = s.frameId
  crcOk : t.stats.crcOk = s.stats.crcOk + BitVec.ofNat 32 ps.length
  sent : t.stats.framesSent = s.stats.framesSent
  dropped : t.stats.framesDropped = s.stats.framesDropped
  count : t.placedCount = ps.length
  prev : 0 < ps.length → t.prevRow.toNat < ps.length
  pixels : Memory.readBytes (buffer t t.active) 0 (ps.length * s.desc.width) = ps.flatten

/-- Before the first line of a frame. -/
theorem FrameSoFar.nil (h : Inv s) (hp : s.pstate ≠ .readingLine) (hc : s.placedCount = 0)
    (hf : s.pending = false) : FrameSoFar s [] s where
  inv := h
  outside := hp
  cfg := rfl
  desc := rfl
  free := hf
  frameId := rfl
  crcOk := by simp
  sent := rfl
  dropped := rfl
  count := hc
  prev h0 := absurd h0 (Nat.lt_irrefl 0)
  pixels := by simp [Memory.readBytes]

variable {ps qs : List (List Byte)}

/-- The next row in order makes no boundary (R172). -/
theorem FrameSoFar.no_boundary (h : FrameSoFar s ps t) (hrow : row.toNat = ps.length) :
    isBoundary t row = false := by
  rw [isBoundary_eq_false_iff, h.count]
  rintro ⟨hpos, hle⟩
  have := h.prev hpos
  have := BitVec.le_def.mp hle
  omega

/-- The next row in order is new to the frame: with no row placed every row is, and the placed rows are at
most the previous one (R182). -/
theorem FrameSoFar.not_placed (h : FrameSoFar s ps t) (hlen : ps.length < s.desc.height) :
    isPlaced t ps.length = false := by
  rcases Nat.eq_zero_or_pos ps.length with h0 | hpos
  · have hzero : placedBelow t.placed t.desc.height = 0 :=
      h.inv.assembler.count.symm.trans (h.count.trans h0)
    exact placedBelow_eq_zero hzero (h.desc ▸ hlen)
  · refine Bool.eq_false_iff.mpr fun hplaced => ?_
    have := h.inv.assembler.order _ hplaced
    have := h.prev hpos
    omega

/-- What the line of the next row in order leaves (R178 to R180). -/
theorem FrameSoFar.lineHandled (h : FrameSoFar s ps t) {rowB : Byte} {p : List Byte}
    (hrow : (t.desc.row rowB).toNat = ps.length) (hrows : ps.length < s.desc.height)
    (hlen : p.length = s.desc.width) (hinv : Inv (lineHandled rowB p t)) :
    FrameSoFar s (ps ++ [p]) (lineHandled rowB p t) := by
  have hline := lineHandled_of_new (bytes := p) (h.no_boundary hrow) (by rwa [hrow, h.desc])
  have hcount : (placeLine (t.desc.row rowB) p (lineRead rowB p t)).placedCount = t.placedCount + 1 :=
    (placeLine_new p (by simpa [hrow] using h.not_placed hrows)).2
  have hpixels : Memory.readBytes (Memory.writeBytes (buffer t t.active) (ps.length * s.desc.width) p) 0
      (ps.length * s.desc.width + s.desc.width) = ps.flatten ++ p := by
    rw [← h.pixels, ← hlen]
    exact Memory.readBytes_writeBytes_end (h.inv.memory.buffer_wf _) _ p
  rw [hline] at hinv ⊢
  exact {
    inv := hinv
    outside := by simp
    cfg := by simp [h.cfg]
    desc := by simp [h.desc]
    free := by simp [h.free]
    frameId := by simp [h.frameId]
    crcOk := by simp [h.crcOk, BitVec.ofNat_add, BitVec.add_assoc]
    sent := by simp [h.sent]
    dropped := by simp [h.dropped]
    count := by simp [hcount, h.count]
    prev := by simp [hrow]
    pixels := by
      rw [← h.desc] at hpixels
      simp [buffer_placeLine, hrow, ← h.desc, Nat.succ_mul, hpixels] }

/-- A row below `H` is its own row byte under the direct decode (R93, WF4). -/
theorem FrameSoFar.toNat_row (h : FrameSoFar s ps t) (hdec : s.desc.rowDecode = .direct) {r : Nat}
    (hr : r < s.desc.height) :
    (t.desc.row (BitVec.ofNat 8 r)).toNat = r ∧ r < t.desc.totalLines := by
  obtain ⟨_, _, hHT, hT, _, _⟩ := Descriptor.wf_bounds (State.desc_wf h.inv.cfg)
  rw [h.desc] at hHT hT ⊢
  rw [Descriptor.row, hdec, RowDecode.row, BitVec.toNat_ofNat, Nat.mod_eq_of_lt (by omega)]
  exact ⟨rfl, by omega⟩

/-- The record of a row below `H` is handled as a line (R108, R151). -/
theorem FrameSoFar.parseBytes_record (h : FrameSoFar s ps t) (hdec : s.desc.rowDecode = .direct) {r : Nat}
    (hr : r < s.desc.height) {p : List Byte} (hlen : p.length = s.desc.width) :
    parseBytes (goodRecord s.cfg (BitVec.ofNat 8 r) p) t = Machine.lineHandled (BitVec.ofNat 8 r) p t := by
  obtain ⟨hrow, hT⟩ := h.toNat_row hdec hr
  rw [← h.cfg]
  exact parseBytes_goodRecord h.inv.memory.line_wf h.outside (by rwa [hrow]) (h.desc ▸ hlen)

/-- One more line, of the next row in order. -/
theorem FrameSoFar.snoc (h : FrameSoFar s ps t) (hdec : s.desc.rowDecode = .direct)
    (hrows : ps.length < s.desc.height) {p : List Byte} (hlen : p.length = s.desc.width) :
    FrameSoFar s (ps ++ [p]) (parseBytes (goodRecord s.cfg (BitVec.ofNat 8 ps.length) p) t) := by
  have hrecord := h.parseBytes_record hdec hrows hlen
  have hinv : Inv (Machine.lineHandled (BitVec.ofNat 8 ps.length) p t) :=
    hrecord ▸ parseBytes_induction (fun b _ hu => hu.parse b) _ t h.inv
  rw [hrecord]
  exact h.lineHandled (h.toNat_row hdec hrows).1 hrows hlen hinv

/-- The lines of the rows that follow in order, by induction over them. -/
theorem FrameSoFar.append (h : FrameSoFar s ps t) (hdec : s.desc.rowDecode = .direct)
    (hrows : ps.length + qs.length ≤ s.desc.height) (hlen : ∀ q ∈ qs, q.length = s.desc.width) :
    FrameSoFar s (ps ++ qs) (parseBytes (frameRecords s.cfg ps.length qs) t) := by
  induction qs generalizing ps t with
  | nil => simpa [frameRecords, parseBytes_nil] using h
  | cons q qs ih =>
    rw [List.length_cons] at hrows
    have hone := h.snoc hdec (by omega) (hlen q List.mem_cons_self)
    have hrest := ih hone (by simp; omega) fun p hp => hlen p (List.mem_cons_of_mem q hp)
    rw [frameRecords, parseBytes_append]
    simpa using hrest

/-- After the last line of a frame, a line of row 0 makes a boundary (R172). -/
theorem FrameSoFar.boundary_of_full (h : FrameSoFar s ps t) (hfull : ps.length = s.desc.height)
    (hrow : row.toNat = 0) : isBoundary t row = true := by
  have hpos := (Descriptor.wf_bounds (State.desc_wf h.inv.cfg)).2.1
  rw [h.desc, ← hfull] at hpos
  refine (isBoundary_iff t row).mpr ⟨h.count ▸ hpos, BitVec.le_def.mpr ?_⟩
  rw [hrow]
  exact Nat.zero_le _

/-- The lines of the whole frame and then one line `last` of row 0, read from `s` on, have left `u`: the frame
is pending under its header, and `last` is the one line of the next frame (R175, R176). -/
structure FrameHandedOff (s : State) (ps : List (List Byte)) (last : List Byte) (u : State) : Prop where
  pending : u.pending = true
  cursor : u.sendCursor = 0
  frameId : u.frameId = s.frameId + 1
  hdr : u.hdr = headerBytes s.cfg s.desc (s.frameId + 1)
  grid : Memory.readBytes (buffer u u.active.other) 0 s.desc.frameSize = ps.flatten
  first : Memory.readBytes (buffer u u.active) 0 s.desc.width = last
  count : u.placedCount = 1
  locked : u.frameLocked = true
  gap : u.pstate = .scanningGap
  crcOk : u.stats.crcOk = s.stats.crcOk + BitVec.ofNat 32 (s.desc.height + 1)
  sent : u.stats.framesSent = s.stats.framesSent + 1
  dropped : u.stats.framesDropped = s.stats.framesDropped

/-- What the line of row 0 leaves after the last line of a frame (R171, R175 to R178). -/
theorem FrameSoFar.handedOff (h : FrameSoFar s ps t) (hfull : ps.length = s.desc.height) {rowB : Byte}
    (hrow : (t.desc.row rowB).toNat = 0) {last : List Byte} (hlast : last.length = s.desc.width) :
    FrameHandedOff s ps last (Machine.lineHandled rowB last t) := by
  have hH : 0 < t.desc.height := (Descriptor.wf_bounds (State.desc_wf h.inv.cfg)).2.1
  have hgrid : Memory.readBytes (buffer t t.active) 0 s.desc.frameSize = ps.flatten := by
    rw [Descriptor.frameSize, Nat.mul_comm, ← hfull, h.pixels]
  have hfirst : Memory.readBytes (Memory.writeBytes
      (Memory.clearBelow t.desc.frameSize (buffer t t.active.other)) 0 last) 0 s.desc.width = last := by
    rw [← hlast]
    exact Memory.readBytes_writeBytes_same
      (Memory.wf_clearBelow _ _ (h.inv.memory.buffer_wf t.active.other)) 0 last
  have hone := (placeLine_new (row := t.desc.row rowB)
    (s := boundaryHandoff (nextFrameId (lineRead rowB last t))) last (by simp [isPlaced])).2
  have hactive : t.active ≠ t.active.other := (BufferId.other_ne t.active).symm
  rw [lineHandled_of_handoff (h.boundary_of_full hfull hrow) h.free (by rwa [hrow])]
  exact {
    pending := by simp
    cursor := by simp
    frameId := by simp [h.frameId]
    hdr := by simp [h.frameId, h.cfg, h.desc]
    grid := by simp [buffer_placeLine, buffer_boundaryHandoff, hactive, hgrid]
    first := by simp [buffer_placeLine, buffer_boundaryHandoff, hrow, hfirst]
    count := by simp [hone]
    locked := by simp
    gap := by simp
    crcOk := by simp [h.crcOk, hfull, BitVec.ofNat_add, BitVec.add_assoc]
    sent := by simp [h.sent]
    dropped := by simp [h.dropped] }

end

/-! ### The statements -/

/-- Settles O28, by induction over the rows: none makes a boundary and each is placed after the one before
it; then row 0 hands the frame off and is the first line of the next. -/
theorem orderedLinesMakeOneFrame : Obligations.OrderedLinesMakeOneFrame := by
  intro s ps last hInv hterm hp hcount hfree hdec hfull hlen hlast
  have hH : 0 < s.desc.height := (Descriptor.wf_bounds (State.desc_wf hInv.cfg)).2.1
  have hframe : FrameSoFar s ps (parseBytes (frameRecords s.cfg 0 ps) s) :=
    (FrameSoFar.nil hInv hp hcount hfree).append hdec (by simpa using hfull.le) hlen
  have hrecords : parseBytes (frameRecords s.cfg 0 ps ++ goodRecord s.cfg 0 last) s =
      lineHandled 0 last (parseBytes (frameRecords s.cfg 0 ps) s) :=
    (parseBytes_append _ _ s).trans (hframe.parseBytes_record hdec hH hlast)
  rw [hrecords]
  obtain ⟨hpending, hcursor, hid, hhdr, hgrid, hfirst, hone, hlocked, hgap, hok, hsent, hdropped⟩ :=
    hframe.handedOff hfull (hframe.toNat_row hdec hH).1 hlast
  exact ⟨hpending, hcursor, hid, hhdr, hgrid, hfirst, hone, hlocked, hgap, hok, hsent, hdropped⟩

/-- Settles O25: a line without a boundary is placed or not, and one with a boundary is handled as one without
in the state that the boundary leaves. -/
theorem handleLineTakesTheBoundaryFirst : Obligations.HandleLineTakesTheBoundaryFirst := by
  intro s row bytes hr hrow hlen
  have hgo : exec (.handleLine row bytes) s = .next (handleLine row bytes s) :=
    (exec_handleLine_eq_next row bytes).mpr ⟨hr, ⟨hrow, hlen⟩, rfl⟩
  refine ⟨⟨_, hgo⟩, fun hb hblank => ?_, fun hb hactive => ?_, fun hcount hle => ?_⟩
  · rw [hgo, handleLine_of_blanking (isBoundary_eq_false_iff.mpr hb) hblank]
    rfl
  · refine ⟨_, (exec_place_eq_next row bytes).mpr ⟨hr, ⟨hactive, hlen⟩, rfl⟩, ?_⟩
    rw [hgo, handleLine_of_active (isBoundary_eq_false_iff.mpr hb) hactive]
    rfl
  · have hb : isBoundary s row = true := (isBoundary_iff s row).mpr ⟨hcount, hle⟩
    refine ⟨boundary s, exec_boundary_row hr hrow hb, boundary_placedCount s, ?_⟩
    have hr' : Running (boundary s) := by simpa [Running] using hr
    rw [hgo]
    exact ((exec_handleLine_eq_next row bytes).mpr
      ⟨hr', by simpa using And.intro hrow hlen, handleLine_boundary hb⟩).symm

/-- Settles O26: the boundary alone moves the identifier and the two counters, each by one. -/
theorem frameIdCountsBoundaries : Obligations.FrameIdCountsBoundaries := by
  intro s t row bytes h
  obtain ⟨_, _, rfl⟩ := (exec_handleLine_eq_next row bytes).mp h
  rw [← BitVec.toNat_add]
  cases hb : isBoundary s row with
  | true =>
    have hif := (isBoundary_iff s row).mp hb
    rw [handleLine_of_boundary bytes hb, if_pos hif, if_pos hif]
    simp [boundary_counts_one_frame]
  | false =>
    have hif := isBoundary_eq_false_iff.mp hb
    rw [handleLine_of_no_boundary bytes hb, if_neg hif, if_neg hif]
    simp

/-- Settles O22: what `placeLine` writes, and what its run of bytes reads back as. -/
theorem placeCopiesThePayloadToItsRow : Obligations.PlaceCopiesThePayloadToItsRow := by
  intro s row bytes hr hm hrow hlen
  refine ⟨_, (exec_place_eq_next row bytes).mpr ⟨hr, ⟨hrow, hlen⟩, placeLine_eq row bytes s⟩, fun a => ?_⟩
  rw [Memory.read_writeBytes bytes _ _ a hm, hlen]

/-- Settles O23: what `boundaryDrop` writes, and what the cleared buffer reads as. -/
theorem dropLeavesThePendingFrame : Obligations.DropLeavesThePendingFrame := by
  intro s row hr hrow hcount hle hp
  have hb : isBoundary s row = true := (isBoundary_iff s row).mpr ⟨hcount, hle⟩
  exact ⟨_, (exec_boundaryDrop_eq_next row).mpr ⟨hr, ⟨⟨hrow, hb⟩, hp⟩, boundaryDrop_eq s⟩,
    Memory.read_clearBelow _ _⟩

/-- Settles O24: what `boundaryHandoff` writes, with the header bytes written out, and what the cleared buffer
reads as. -/
theorem handoffSwapsTheBuffersAndStampsTheHeader :
    Obligations.HandoffSwapsTheBuffersAndStampsTheHeader := by
  intro s row hr hrow hcount hle hp
  have hb : isBoundary s row = true := (isBoundary_iff s row).mpr ⟨hcount, hle⟩
  have heq := boundaryHandoff_eq s
  rw [headerBytes_eq] at heq
  exact ⟨_, (exec_boundaryHandoff_eq_next row).mpr ⟨hr, ⟨⟨hrow, hb⟩, hp⟩, heq⟩,
    Memory.read_clearBelow _ _⟩

end Sys2Proof.Machine
end

section
/-! PROOFS. The frame sender family (43_frame_sender.md): the rows of POLL (R202 to R205) and a packet sent
in parts (R206). First the abandonment and the completion as one update of the state, then what a POLL does
with the slot occupied, then what the host has received after it, then the statements. -/

namespace Sys2Proof.Machine

section

variable {s : State} {room k : Nat}

/-! ### The abandonment and the completion as one update of the state (R203, R205) -/

/-- Everything that the abandonment writes (R203). -/
theorem sendAbandon_eq (s : State) : sendAbandon s =
    { s with pending := false, sendCursor := 0, history := s.history ++ [.sendAbandoned] } := rfl

/-- Everything that the completion writes, the flush before the record (R205). -/
theorem sendComplete_eq (s : State) : sendComplete s =
    { s with pending := false, sendCursor := 0, history := s.history ++ [.chanFlush, .frameSent] } := by
  rw [← sendComplete_history]
  rfl

/-! ### What a POLL with the slot occupied does (R204, R205) -/

theorem offerSize_at_total (h : s.sendCursor = packetSize s) : offerSize room s = 0 := by
  simp [offerSize, h]

/-- Where nothing is offered and bytes are left, the POLL does nothing (D20). -/
theorem sendPoll_of_no_offer (ho : offerSize room s = 0) (hc : s.sendCursor ≠ packetSize s) :
    sendPoll room k s = s := by
  simp [sendPoll, ho, hc]

/-- A POLL that finds the packet accepted whole is its completion. -/
theorem sendPoll_at_total (hc : s.sendCursor = packetSize s) : sendPoll room k s = sendComplete s := by
  simp [sendPoll, offerSize_at_total hc, hc]

theorem exec_pollComplete_at_total (h : Running s) (hp : s.pending = true)
    (hc : s.sendCursor = packetSize s) : exec .pollComplete s = .next (sendComplete s) :=
  exec_pollComplete_eq_next.mpr ⟨h, ⟨hp, hc⟩, rfl⟩

/-- An answer within the offer that stops short of the end is the write alone. -/
theorem exec_pollWrite_partial (h : Running s) (hp : s.pending = true) (ho : 0 < offerSize room s)
    (hk : k ≤ offerSize room s) (hc : s.sendCursor + k < packetSize s) :
    exec (.pollWrite room k) s = .next (sendWrite room k s) :=
  (exec_pollWrite_eq_next room k).mpr ⟨h, hp, .inr hk, sendPoll_partial ho hc.ne⟩

/-- An answer that takes the rest of the packet is the write and then the completion. -/
theorem exec_pollWrite_last (h : Running s) (hp : s.pending = true) (ho : 0 < offerSize room s)
    (hk : k ≤ offerSize room s) (hc : s.sendCursor + k = packetSize s) :
    exec (.pollWrite room k) s = .next (sendComplete (sendWrite room k s)) :=
  (exec_pollWrite_eq_next room k).mpr ⟨h, hp, .inr hk, sendPoll_last ho hc⟩

/-- An answer above the offer is outside the contract of the channel (D39). -/
theorem exec_pollWrite_of_excess (h : Running s) (hp : s.pending = true) (ho : 0 < offerSize room s)
    (hk : offerSize room s < k) : exec (.pollWrite room k) s = .refused .hostContract := by
  change whenRunning s _ = _
  rw [whenRunning_of_running h, if_pos hp, if_pos ⟨ho, hk⟩]

/-! ### What the host has received (R201, R204) -/

/-- The stream in two parts. -/
theorem streamBytes_add (s : State) (start m n : Nat) :
    streamBytes s start (m + n) = streamBytes s start m ++ streamBytes s (start + m) n := by
  simp [streamBytes, List.range_add, Nat.add_assoc]

theorem take_streamBytes (s : State) (start : Nat) {k n : Nat} (h : k ≤ n) :
    (streamBytes s start n).take k = streamBytes s start k := by
  obtain ⟨m, rfl⟩ := Nat.exists_eq_add_of_le h
  rw [streamBytes_add, List.take_left' (length_streamBytes s start k)]

/-- Sending moves no byte of the pending frame (R207). -/
theorem streamBytes_sendWrite (room k : Nat) (s : State) :
    streamBytes (sendWrite room k s) = streamBytes s := rfl

/-- A write puts the accepted bytes, the next of the stream, behind what the host has. -/
theorem hostStream_sendWrite (hk : k ≤ offerSize room s) :
    hostStream (sendWrite room k s) = hostStream s ++ streamBytes s s.sendCursor k := by
  simp [hostStream, Event.hostBytes, take_streamBytes s s.sendCursor hk]

/-- The completion sends nothing. -/
theorem hostStream_sendComplete (s : State) : hostStream (sendComplete s) = hostStream s := by
  simp [hostStream, Event.hostBytes]

end

/-! ### The statements -/

/-- Settles O34: the first POLL is the write of the first `k` bytes, the second the write of the rest from `k`
on and the completion. -/
theorem twoPollsSendTheWholePacket : Obligations.TwoPollsSendTheWholePacket := by
  intro s k room₁ room₂ hr hp hc hpos hlt hroom₁ hroom₂
  have hsplit : k + (packetSize s - k) = packetSize s := Nat.add_sub_of_le hlt.le
  set rest := packetSize s - k
  set u := sendWrite room₁ k s with hu
  have hcu : u.sendCursor = k := by simp [hu, hc]
  have hoffer₁ : k ≤ offerSize room₁ s := by simp only [offerSize, hc]; omega
  have hoffer₂ : rest ≤ offerSize room₂ u := by
    rw [offerSize, hcu]
    exact le_min hroom₂ le_rfl
  have hend : u.sendCursor + rest = packetSize u := by rw [hcu]; exact hsplit
  have hrest : 0 < rest := by omega
  refine ⟨u, sendComplete (sendWrite room₂ rest u), ?_, hp, hcu, ?_, rfl, rfl, ?_, ?_, ?_⟩
  · exact exec_pollWrite_partial hr hp (hpos.trans_le hoffer₁) hoffer₁ (by omega)
  · exact exec_pollWrite_last hr hp (hrest.trans_le hoffer₂) hoffer₂ hend
  · calc hostStream (sendComplete (sendWrite room₂ rest u))
      _ = hostStream u ++ streamBytes u k rest := by
          rw [hostStream_sendComplete, hostStream_sendWrite hoffer₂, hcu]
      _ = hostStream s ++ streamBytes s 0 k ++ streamBytes s k rest := by
          rw [hu, streamBytes_sendWrite, hostStream_sendWrite hoffer₁, hc]
      _ = hostStream s ++ streamBytes s 0 (packetSize s) := by
          rw [← hsplit, streamBytes_add, Nat.zero_add, List.append_assoc]
  · simp only [sendComplete_stats, sendWrite_stats, hu]
    rw [← hsplit, BitVec.ofNat_add, BitVec.add_assoc]
  · simp [hu]

/-- Settles O30: the two rows in which the channel takes nothing. -/
theorem pollIdleAndDisconnect : Obligations.PollIdleAndDisconnect := fun s hr =>
  ⟨fun hp => exec_pollIdle_eq_next.mpr ⟨hr, hp, rfl⟩,
    fun hp => exec_pollDisconnect_eq_next.mpr ⟨hr, hp, sendAbandon_eq s⟩⟩

/-- Settles O31, by the offer and by what the channel answers to it. -/
theorem pollWriteAdvancesByWhatIsAccepted : Obligations.PollWriteAdvancesByWhatIsAccepted := by
  intro s room k hr hp
  simp only [frame_total]
  refine ⟨fun ho hk hc => ?_, fun ho hk hc => ?_, fun ho hc => ?_, fun hc => ?_, fun ho hk => ?_⟩
  · exact exec_pollWrite_partial hr hp ho hk hc
  · exact (exec_pollWrite_last hr hp ho hk hc).trans
      (exec_pollComplete_at_total (s := sendWrite room k s) hr hp hc).symm
  · exact (exec_pollWrite_eq_next room k).mpr ⟨hr, hp, .inl ho, sendPoll_of_no_offer ho hc⟩
  · rw [exec_pollComplete_at_total hr hp hc]
    exact (exec_pollWrite_eq_next room k).mpr
      ⟨hr, hp, .inl (offerSize_at_total hc), sendPoll_at_total hc⟩
  · exact exec_pollWrite_of_excess hr hp ho hk

/-- Settles O32: at the total the completion is selected. -/
theorem pollCompleteFreesTheSlotAndFlushes : Obligations.PollCompleteFreesTheSlotAndFlushes :=
  fun s hr hp hc => exec_pollComplete_eq_next.mpr ⟨hr, ⟨hp, hc⟩, sendComplete_eq s⟩

end Sys2Proof.Machine
end

section
/-! PROOFS. The mode controller family (44_mode_controller.md): the host commands (R223 to R230), the mode
switch (R225), CMD (R221, R222), and the fair run that takes the oldest waiting byte. First each operation
as one update of the state, then what a decoded command answers, then the command queue along a run, then
the statements. -/

namespace Sys2Proof.Machine

section

variable {s t : State}

/-! ### Each operation as one update of the state (R225, R226, R229) -/

/-- Everything that clearing the assembler writes (R225, D26). -/
theorem clearAssembler_eq (s : State) : clearAssembler s = { s with
    bufPing := Memory.clearBelow s.cfg.bufferSize s.bufPing
    bufPong := Memory.clearBelow s.cfg.bufferSize s.bufPong
    placed := 0
    placedCount := 0
    active := .ping } := rfl

/-- Everything that the mode switch writes (R225). -/
theorem modeSwitch_eq (v : Variant) (s : State) : modeSwitch v s = { s with
    captureEnabled := true
    pstate := .scanningForSync
    frameLocked := false
    lineCount := 0
    bufPing := Memory.clearBelow s.cfg.bufferSize s.bufPing
    bufPong := Memory.clearBelow s.cfg.bufferSize s.bufPong
    placed := 0
    placedCount := 0
    active := .ping
    pending := false
    sendCursor := 0
    prodCursor := 0
    consCursor := 0
    produced := 0
    consumed := 0
    overrun := false
    variant := v
    history := s.history ++ [.modeSwitched v (s.cfg.descriptor v).bitRate] } := by
  rw [modeSwitch, clearAssembler_eq]
  rfl

/-- Everything that STATUS writes: the two records and the draw (R226). -/
theorem statusReport_eq (s : State) : statusReport s = { s with
    history := s.history ++ [.status s.stats, .chanText (Config.statusText s.draws s.stats)]
    draws := s.draws + 1 } := by
  simp [statusReport, chanWriteOpaque, emit]

/-- Everything that FW_UPDATE writes, the three records in its order (R229). -/
theorem firmwareUpdate_eq (s : State) : firmwareUpdate s = { s with
    terminal := true
    history := s.history ++ [.chanText (Config.ackText s.draws), .chanFlush, .firmwareUpdate]
    draws := s.draws + 1 } := by
  simp [firmwareUpdate, chanFlush, chanWriteOpaque, emit]

/-! ### What a decoded command answers (R222) -/

/-- A command that is selected while the block runs goes on. -/
theorem exec_command_goes_on (h : Running s) {c : Command} (hs : Selected s c.instr) :
    ∃ t, exec c.instr s = .next t := by
  cases c with
  | ignore b =>
    have hb : isCommandByte b = false := (isCommandByte_eq_false_iff b).mpr hs
    exact ⟨_, (exec_ignore_eq_next b).mpr ⟨h, hb, rfl⟩⟩
  | _ => exact ⟨_, attempt_of_enabled h rfl⟩

/-- Every byte that CMD takes is acted on: what it decodes to is selected (R103, R104). -/
theorem exec_cmd_goes_on {c : Byte} {rest : List Byte} (h : Running s) (hq : s.cmdQueue = c :: rest) :
    ∃ t, exec .cmd s = .next t := by
  have hr : Running (setQueue rest s) := h
  rw [exec_cmd_of_queue hq]
  exact exec_command_goes_on hr (selected_decodeCommand _ c)

/-! ### The command queue along a run (R55, R221) -/

/-- A move that is no CMD takes nothing off the queue: HOST appends to it, the others leave it. -/
theorem runMove_cmdQueue_grows {m : Move} (hm : m ≠ .cmd) (h : runMove m s = .next t) :
    s.cmdQueue <+: t.cmdQueue := by
  cases m with
  | produce b =>
    obtain ⟨_, _, rfl⟩ := (exec_produce_eq_next b).mp h
    simp
  | consume =>
    obtain ⟨_, _, rfl⟩ := exec_consume_eq_next.mp h
    simp
  | poll a =>
    simp only [runMove, pollInstr] at h
    split_ifs at h
    · obtain ⟨_, _, _, rfl⟩ := (exec_pollWrite_eq_next _ _).mp h
      simp
    · obtain ⟨_, _, rfl⟩ := exec_pollDisconnect_eq_next.mp h
      simp
    · obtain ⟨_, _, rfl⟩ := exec_pollIdle_eq_next.mp h
      exact List.prefix_rfl
  | cmd => exact absurd rfl hm
  | hostByte c =>
    obtain ⟨_, rfl⟩ := (hostByte_eq_next c).mp h
    simp

section run

variable {σ : Nat → State} {μ : Nat → Move} (hrun : IsRun σ μ)
include hrun

/-- Until the first CMD of a run the bytes that waited at its start stay at the head of the queue. -/
theorem IsRun.cmdQueue_prefix {n : Nat} (h : ∀ k < n, μ k ≠ .cmd) :
    (σ 0).cmdQueue <+: (σ n).cmdQueue := by
  induction n with
  | zero => exact List.prefix_rfl
  | succ n ih =>
    have hbefore : (σ 0).cmdQueue <+: (σ n).cmdQueue := ih fun k hk => h k (by omega)
    exact hbefore.trans (runMove_cmdQueue_grows (h n n.lt_succ_self) (hrun n))

/-- A fair run that starts with a byte waiting has a CMD: without one the byte would wait for ever, and
then CMD is taken (R221). -/
theorem IsRun.exists_cmd (hfair : WeaklyFair σ μ) (hq : (σ 0).cmdQueue ≠ []) : ∃ n, μ n = .cmd := by
  by_contra hnone
  have hne : ∀ k, μ k ≠ .cmd := not_exists.mp hnone
  have hwaits : ∀ n, (σ n).cmdQueue ≠ [] := fun n hn =>
    hq (List.prefix_nil.mp (hn ▸ hrun.cmdQueue_prefix fun k _ => hne k))
  obtain ⟨_, _, hcmd⟩ := hfair
  obtain ⟨m, _, hm⟩ := hcmd (fun n => ⟨n, le_rfl, hwaits n⟩) 0
  exact hne m hm

end run

end

/-! ### The statements -/

/-- Settles O55: the first CMD of the run finds the byte still at the head. -/
theorem fairRunTakesTheOldestCommand : Obligations.FairRunTakesTheOldestCommand := by
  intro σ μ c rest hrun hfair hq
  have hcmd : ∃ n, μ n = .cmd := hrun.exists_cmd hfair (by simp [hq])
  obtain ⟨waiting, hw⟩ := hrun.cmdQueue_prefix fun _ => Nat.find_min hcmd
  refine ⟨Nat.find hcmd, Nat.find_spec hcmd, rest ++ waiting, ?_⟩
  rw [← hw, hq, List.cons_append]

/-- Settles O36: the switch and the two commands are one update, and a cleared buffer reads 0. -/
theorem modeSwitchResetsWhatTheRuleLists : Obligations.ModeSwitchResetsWhatTheRuleLists := by
  refine fun s v hr => ⟨_, _, ⟨?_, ?_, ?_⟩, Memory.read_clearBelow s.cfg.bufferSize s.bufPing,
    Memory.read_clearBelow s.cfg.bufferSize s.bufPong⟩
  · exact (exec_modeSwitch_eq_next v).mpr ⟨hr, modeSwitch_eq v s⟩
  · rintro rfl k
    exact (exec_modeNarrow_eq_next k).mpr ⟨hr, modeSwitch_eq .narrow s⟩
  · rintro rfl k
    exact (exec_modeWide_eq_next k).mpr ⟨hr, modeSwitch_eq .wide s⟩

/-- Settles O37, with the text of this draw. -/
theorem statusReportsTheCounters : Obligations.StatusReportsTheCounters :=
  fun s k hr => ⟨_, (exec_status_eq_next k).mpr ⟨hr, statusReport_eq s⟩⟩

/-- Settles O38: the record of zeros, field by field. -/
theorem clearStatsClearsTheEightCounters : Obligations.ClearStatsClearsTheEightCounters :=
  fun _ k hr => (exec_clearStats_eq_next k).mpr ⟨hr, rfl⟩

/-- Settles O39, with the text of this draw. -/
theorem firmwareUpdateIsTerminal : Obligations.FirmwareUpdateIsTerminal :=
  fun s k hr => ⟨_, (exec_fwUpdate_eq_next k).mpr ⟨hr, firmwareUpdate_eq s⟩⟩

/-- Settles O40: a byte whose folded case is none of the five codes is IGNORE's. -/
theorem ignoredCommandChangesNothing : Obligations.IgnoredCommandChangesNothing := by
  intro s c hr hN hO hS hR hB
  have hc : isCommandByte c = false := (isCommandByte_eq_false_iff c).mpr
    (by simpa using And.intro hN (.intro hO (.intro hS (.intro hR hB))))
  exact (exec_ignore_eq_next c).mpr ⟨hr, hc, rfl⟩

/-- Settles O41, by whether a byte waits. -/
theorem cmdTakesTheOldestByteAndRunsIt : Obligations.CmdTakesTheOldestByteAndRunsIt := fun _ hr =>
  ⟨(exec_cmd_notEnabled_iff hr).mpr, fun _ _ hq => ⟨exec_cmd_of_queue hq, exec_cmd_goes_on hr hq⟩⟩

/-- Settles O44: the step is the CMD at hand, and `i` is what the oldest byte decodes to. -/
theorem stepRunsTheDecodedCommand : Obligations.StepRunsTheDecodedCommand := by
  intro s c rest i hb hm hq hd
  obtain rfl : (decodeCommand c).instr = i := congrArg Prod.fst (Except.ok.inj hd)
  have hq' : (takeMove s).cmdQueue = c :: rest := (takeMove_cmdQueue s).trans hq
  calc step s = exec .cmd (takeMove s) := by rw [step_of_booted hb, hm]; rfl
    _ = exec (decodeCommand c).instr { takeMove s with cmdQueue := rest } := exec_cmd_of_queue hq'

end Sys2Proof.Machine
end

section
/-! PROOFS. The reset family (70_reset_and_hazards.md): the boot step of R280 as one update of the cold
start, then the statement. -/

namespace Sys2Proof.Machine

/-- The boot step (R280) adds its record and otherwise leaves the cold start as it is: every register that
MODE_SWITCH resets (R225) holds its reset value there already (R60). -/
theorem step_coldStart {c : Config} (hc : c.wf = true) (ring line : Memory) :
    step (State.coldStart c ring line) = .next { State.coldStart c ring line with
      booting := false
      history := [.modeSwitched c.initialVariant (c.descriptor c.initialVariant).bitRate] } := by
  have hr : Running { State.coldStart c ring line with booting := false } := ⟨hc, rfl⟩
  rw [step_of_booting rfl]
  exact (exec_modeSwitch_eq_next c.initialVariant).mpr ⟨hr, modeSwitch_eq _ _⟩

/-- Settles O47, register by register: an empty buffer and the header of zeros read 0. -/
theorem coldStartBootsIntoTheInitialVariant : Obligations.ColdStartBootsIntoTheInitialVariant := by
  intro c ring line hc
  refine ⟨_, step_coldStart hc ring line, ?_⟩
  simp [State.coldStart]

end Sys2Proof.Machine
end
